-- ==== Sys2Proof/Word.lean ====
section
/-! DEFINITION. The word types of the core: a register byte (R4) and the decode key (R74). -/

namespace Sys2Proof

/-- A transaction byte, a register value or a register address: 8 bits (R3, R4, R23). -/
abbrev Byte := BitVec 8

/-- The decode key: dir in bit 9, bank_mode in bit 8, addr in bits 7 to 0 (R74). -/
abbrev Key := BitVec 10

end Sys2Proof
end

