-- ==== Sys2Proof/Config.lean ====
section
/-! DEFINITION. What the core's parameters fix (00_scope.md section 3) and the free values. A free value has no body, so no
proof can see it; each is applied to State's draw counter, so that every draw is a fresh one. -/

namespace Sys2Proof.Config

/-- `T_RST_MIN`, the minimum reset pulse width in units of the time source: OPEN (R5, D14). A free value, log entry 8. -/
opaque tRstMin : Nat

/-- `IsHigh(i)` at draw `n`: the level of pin `i`'s line, a bit under no law (R215, U4). A free value, log entry 5.
One draw number serves one read byte; within it each Input pin is sampled once (R170). -/
opaque lineLevel (draw : Nat) (pin : Fin 16) : Bool

/-- The buffer byte of an invalid read at draw `n`: any byte, under no law (R156, D6, U3). A free value, log entry 6. -/
opaque invalidByte (draw : Nat) : Byte

/-- Which order the pushes of one register write or one reset reach their pins in (`PUSH_ORDER`, R137, D11, U6): the number
of a permutation, read by `arrange`. A free value, log entry 7. -/
opaque pushOrder (draw : Nat) : Nat

/-- Which order the samples of one read byte are taken in (R170, D21): the number of a permutation. A free value, log
entry 7. -/
opaque sampleOrder (draw : Nat) : Nat

/-- `RST_WAIT_LOW_MODE` at one entry of the reset monitor: true is `LEVEL`, false is `EDGE`; OPEN, both admitted at each
entry (R242, D13, U11). A free value, log entry 9. -/
opaque waitLowIsLevel (draw : Nat) : Bool

/-- The two readings of an OLAT read (R157). -/
inductive OlatRead where
  | gpioAlias
  | latch
deriving DecidableEq, Repr

/-- `OLAT_READ`: the spec decides `GPIO_ALIAS` (R157, D5, U7). Log entry 10. -/
def olatRead : OlatRead := .gpioAlias

end Sys2Proof.Config
end

