-- ==== Sys2Proof/Syntax.lean ====
section
/-! DEFINITION. The operations of the core as syntax (R70): one constructor of `Instr` per row of the opcode table (the five
rows of one INVALID mnemonic are one constructor: they are one operation on five address ranges), and the two forms in which
an operation reaches the decoder. -/

namespace Sys2Proof

/-- The two banks of 8 pins (R2). Bank A is 0 and bank B is 1 (R6). -/
inductive Bank where
  | A
  | B
deriving DecidableEq, Repr

/-- The 11 register types, in the order of their ordinals (R27). -/
inductive RegType where
  | IODIR
  | IPOL
  | GPINTEN
  | DEFVAL
  | INTCON
  | IOCON
  | GPPU
  | INTF
  | INTCAP
  | GPIO
  | OLAT
deriving DecidableEq, Repr

/-- `key[9]` of the decode key: 0 is a write, 1 is a read (R74). -/
inductive AccessDir where
  | wr
  | rd
deriving DecidableEq, Repr

/-- The level of the reset line (R240). -/
inductive Level where
  | low
  | high
deriving DecidableEq, Repr

/-- A step of `RUN` (R243): an entry of the monitor, or a change of the reset line, at a time of the time source (R241). -/
inductive RunStep where
  | entry (time : Nat)
  | change (level : Level) (time : Nat)
deriving DecidableEq, Repr

/-- The operations of the core (R70), named after their mnemonics (R81): `.b0` and `.b1` are the `bank_mode` layouts. A
register write carries its data byte `v`; an invalid access carries the address that decodes to no register (R77). -/
inductive Instr where
  | wrIodirA_b0 (v : Byte)
  | wrIodirB_b0 (v : Byte)
  | wrIpolA_b0 (v : Byte)
  | wrIpolB_b0 (v : Byte)
  | wrGpintenA_b0 (v : Byte)
  | wrGpintenB_b0 (v : Byte)
  | wrDefvalA_b0 (v : Byte)
  | wrDefvalB_b0 (v : Byte)
  | wrIntconA_b0 (v : Byte)
  | wrIntconB_b0 (v : Byte)
  | wrIoconA_b0 (v : Byte)
  | wrIoconB_b0 (v : Byte)
  | wrGppuA_b0 (v : Byte)
  | wrGppuB_b0 (v : Byte)
  | wrIntfA_b0 (v : Byte)
  | wrIntfB_b0 (v : Byte)
  | wrIntcapA_b0 (v : Byte)
  | wrIntcapB_b0 (v : Byte)
  | wrGpioA_b0 (v : Byte)
  | wrGpioB_b0 (v : Byte)
  | wrOlatA_b0 (v : Byte)
  | wrOlatB_b0 (v : Byte)
  | wrIodirA_b1 (v : Byte)
  | wrIpolA_b1 (v : Byte)
  | wrGpintenA_b1 (v : Byte)
  | wrDefvalA_b1 (v : Byte)
  | wrIntconA_b1 (v : Byte)
  | wrIoconA_b1 (v : Byte)
  | wrGppuA_b1 (v : Byte)
  | wrIntfA_b1 (v : Byte)
  | wrIntcapA_b1 (v : Byte)
  | wrGpioA_b1 (v : Byte)
  | wrOlatA_b1 (v : Byte)
  | wrIodirB_b1 (v : Byte)
  | wrIpolB_b1 (v : Byte)
  | wrGpintenB_b1 (v : Byte)
  | wrDefvalB_b1 (v : Byte)
  | wrIntconB_b1 (v : Byte)
  | wrIoconB_b1 (v : Byte)
  | wrGppuB_b1 (v : Byte)
  | wrIntfB_b1 (v : Byte)
  | wrIntcapB_b1 (v : Byte)
  | wrGpioB_b1 (v : Byte)
  | wrOlatB_b1 (v : Byte)
  | wrInvalid_b0 (a : Byte) (v : Byte)
  | wrInvalid_b1 (a : Byte) (v : Byte)
  | rdIodirA_b0
  | rdIodirB_b0
  | rdIpolA_b0
  | rdIpolB_b0
  | rdGpintenA_b0
  | rdGpintenB_b0
  | rdDefvalA_b0
  | rdDefvalB_b0
  | rdIntconA_b0
  | rdIntconB_b0
  | rdIoconA_b0
  | rdIoconB_b0
  | rdGppuA_b0
  | rdGppuB_b0
  | rdIntfA_b0
  | rdIntfB_b0
  | rdIntcapA_b0
  | rdIntcapB_b0
  | rdGpioA_b0
  | rdGpioB_b0
  | rdOlatA_b0
  | rdOlatB_b0
  | rdIodirA_b1
  | rdIpolA_b1
  | rdGpintenA_b1
  | rdDefvalA_b1
  | rdIntconA_b1
  | rdIoconA_b1
  | rdGppuA_b1
  | rdIntfA_b1
  | rdIntcapA_b1
  | rdGpioA_b1
  | rdOlatA_b1
  | rdIodirB_b1
  | rdIpolB_b1
  | rdGpintenB_b1
  | rdDefvalB_b1
  | rdIntconB_b1
  | rdIoconB_b1
  | rdGppuB_b1
  | rdIntfB_b1
  | rdIntcapB_b1
  | rdGpioB_b1
  | rdOlatB_b1
  | rdInvalid_b0 (a : Byte)
  | rdInvalid_b1 (a : Byte)
  | writeTxn (bytes : List Byte)
  | prepare (len : Nat)
  | confirm (n : Nat)
  | reset
  | run (step : RunStep)
deriving DecidableEq, Repr

/-- What an operation is in the course of a transaction (R70, R219). -/
inductive OpKind where
  | writeAccess
  | readAccess
  | writeTxn
  | prepare
  | confirm
  | reset
  | run
deriving DecidableEq, Repr

/-- The kind of each operation. -/
def Instr.kind : Instr → OpKind
  | .wrIodirA_b0 _ | .wrIodirB_b0 _ | .wrIpolA_b0 _ | .wrIpolB_b0 _ | .wrGpintenA_b0 _ | .wrGpintenB_b0 _
  | .wrDefvalA_b0 _ | .wrDefvalB_b0 _ | .wrIntconA_b0 _ | .wrIntconB_b0 _ | .wrIoconA_b0 _ | .wrIoconB_b0 _
  | .wrGppuA_b0 _ | .wrGppuB_b0 _ | .wrIntfA_b0 _ | .wrIntfB_b0 _ | .wrIntcapA_b0 _ | .wrIntcapB_b0 _ | .wrGpioA_b0 _
  | .wrGpioB_b0 _ | .wrOlatA_b0 _ | .wrOlatB_b0 _ | .wrIodirA_b1 _ | .wrIpolA_b1 _ | .wrGpintenA_b1 _
  | .wrDefvalA_b1 _ | .wrIntconA_b1 _ | .wrIoconA_b1 _ | .wrGppuA_b1 _ | .wrIntfA_b1 _ | .wrIntcapA_b1 _
  | .wrGpioA_b1 _ | .wrOlatA_b1 _ | .wrIodirB_b1 _ | .wrIpolB_b1 _ | .wrGpintenB_b1 _ | .wrDefvalB_b1 _
  | .wrIntconB_b1 _ | .wrIoconB_b1 _ | .wrGppuB_b1 _ | .wrIntfB_b1 _ | .wrIntcapB_b1 _ | .wrGpioB_b1 _
  | .wrOlatB_b1 _ | .wrInvalid_b0 _ _ | .wrInvalid_b1 _ _ => .writeAccess
  | .rdIodirA_b0 | .rdIodirB_b0 | .rdIpolA_b0 | .rdIpolB_b0 | .rdGpintenA_b0 | .rdGpintenB_b0 | .rdDefvalA_b0
  | .rdDefvalB_b0 | .rdIntconA_b0 | .rdIntconB_b0 | .rdIoconA_b0 | .rdIoconB_b0 | .rdGppuA_b0 | .rdGppuB_b0
  | .rdIntfA_b0 | .rdIntfB_b0 | .rdIntcapA_b0 | .rdIntcapB_b0 | .rdGpioA_b0 | .rdGpioB_b0 | .rdOlatA_b0 | .rdOlatB_b0
  | .rdIodirA_b1 | .rdIpolA_b1 | .rdGpintenA_b1 | .rdDefvalA_b1 | .rdIntconA_b1 | .rdIoconA_b1 | .rdGppuA_b1
  | .rdIntfA_b1 | .rdIntcapA_b1 | .rdGpioA_b1 | .rdOlatA_b1 | .rdIodirB_b1 | .rdIpolB_b1 | .rdGpintenB_b1
  | .rdDefvalB_b1 | .rdIntconB_b1 | .rdIoconB_b1 | .rdGppuB_b1 | .rdIntfB_b1 | .rdIntcapB_b1 | .rdGpioB_b1
  | .rdOlatB_b1 | .rdInvalid_b0 _ | .rdInvalid_b1 _ => .readAccess
  | .writeTxn _ => .writeTxn
  | .prepare _ => .prepare
  | .confirm _ => .confirm
  | .reset => .reset
  | .run _ => .run

/-- A call on an entry point (R71) as the owner hands it over: the time source's reading at that moment (R241), the header
byte whose bits 2 to 0 are the entry code, and the operand words. An operand word that is not there reads as 0. The operand
words are the model's own packing (log entry 3): the spec gives the calls their operands and no encoding of them. -/
structure Call where
  time     : Nat
  header   : Byte
  operands : List Nat
deriving DecidableEq, Repr

/-- What the decoder is given: a call, or the decode key one transaction byte forms with its data byte (R74; a read has
none, and 0 stands in its place). -/
inductive Fetched where
  | call (c : Call)
  | access (key : Key) (data : Byte)
deriving DecidableEq, Repr

/-- Why the decoder refuses a call. No key is ever refused (R78). -/
inductive Reject where
  /-- Entry codes 5 to 7 name no entry point (R71). -/
  | noSuchEntryPoint (code : Nat)
  /-- A payload word above 255 is no byte (R4, R72). -/
  | wordNotAByte (word : Nat)
  /-- More operand words than the entry point has operands (R71). -/
  | tooManyOperands
  /-- The operand word of `RUN` names no step of the monitor (R243). -/
  | noSuchRunStep (word : Nat)
deriving DecidableEq, Repr

end Sys2Proof
end

