-- ==== Sys2Proof/Machine/State.lean ====
section
/-! DEFINITION. The state of the core (10_state.md) as plain data, with what surrounds it: the calls its owner is about to
make, the reset line, the time source, and the output. Then the reasons a step can stop, and the state after reset. -/

namespace Sys2Proof.Machine

/-- The direction of a pin (R21). -/
inductive Dir where
  | input
  | output
deriving DecidableEq, Repr

/-- The record of one pin (R21): direction, pull-up enabled, output latch. -/
structure Pin where
  dir : Dir
  pu  : Bool
  lat : Bool
deriving DecidableEq, Repr

/-- The record every pin has after a reset (R37): Input, no pull-up, latch low. -/
def Pin.initial : Pin := ⟨.input, false, false⟩

/-- The state of the reset filter (R32). -/
inductive FilterState where
  | waitLow
  | waitHigh (t0 : Nat)
deriving DecidableEq, Repr

/-- The transaction under way: a write whose data bytes are not all applied (`v` is the next one), or a prepare with its
local pointer (R34), the number of buffer bytes after the one it reads next, and the bytes it has read. -/
inductive Txn where
  | idle
  | write (v : Byte) (rest : List Byte)
  | read (lptr : Byte) (more : Nat) (buf : List Byte)
deriving DecidableEq, Repr

/-- The write data bytes still to apply; none of them ends the transaction. -/
def Txn.ofBytes : List Byte → Txn
  | [] => .idle
  | v :: rest => .write v rest

/-- The non-fatal diagnostics with the information each records (R200). -/
inductive Diag where
  | invalidWrite (addr value : Byte)
  | invalidRead (addr : Byte)
  | resetShort (elapsed : Nat)
  | confirmExcess (n prepared : Nat)
  | resetAccepted (elapsed : Nat)
deriving DecidableEq, Repr

/-- The code of a diagnostic (R200, D19). -/
def Diag.code : Diag → Byte
  | .invalidWrite _ _ => 0x01#8
  | .invalidRead _ => 0x02#8
  | .resetShort _ => 0x03#8
  | .confirmExcess _ _ => 0x04#8
  | .resetAccepted _ => 0x05#8

/-- What the fatal fault records (R200): direction, type, bank and address, and for a write its data byte. -/
structure FatalInfo where
  dir   : AccessDir
  type  : RegType
  bank  : Bank
  addr  : Byte
  value : Option Byte
deriving DecidableEq, Repr

/-- `FATAL_UNIMPLEMENTED` (R200). -/
def fatalCode : Byte := 0x80#8

/-- One output of the core (R71): a push of a pin's three fields (R214), a sample of a pin's line and what it answered
(R215), a diagnostic (R206), the bytes a prepare returns (R150), and the fatal fault as the final diagnostic (R203). -/
inductive Output where
  | configure (pin : Fin 16) (record : Pin)
  | sampled (pin : Fin 16) (level : Bool)
  | diag (d : Diag)
  | returned (bytes : List Byte)
  | fatal (info : FatalInfo)
deriving DecidableEq, Repr

/-- The state. The first seven fields are the state record of 10_state.md, `txn` the transaction under way (R34), `watching`
whether the owning loop is running the reset monitor (R219, R245). The rest is not the core's: the reset line and the time
source are inputs (R36), `pending` the calls in the order the owner makes them (R58), `trace` the output in the order it
occurs (R206), and `draws` the model's counter of free values taken so far. -/
structure State where
  pins           : Vector Pin 16
  ptr            : Byte
  bankMode       : Bool
  sequentialMode : Bool
  rwLen          : Nat
  rf             : FilterState
  halted         : Bool
  txn            : Txn
  watching       : Bool
  line           : Level
  now            : Nat
  pending        : List Call
  draws          : Nat
  trace          : List Output
deriving DecidableEq, Repr

/-- Why the machine stops. -/
inductive Fault where
  /-- Raised by `step` and by every meaning when `halted` is 1: once the fatal fault has been taken no entry point has a
  step (R204). Safe: the core has none either. -/
  | coreHalted
deriving DecidableEq, Repr

/-- Why the model has no meaning for what it was given. -/
inductive Refusal where
  /-- An operation without a meaning; `exec` has none left. Safe: nothing is claimed of it. -/
  | notModelled (mnemonic : String)
  /-- Raised by `step` when the next call is no call on one of the five entry points (R71). Safe: no owner can make it. -/
  | notACall (reason : Reject)
deriving DecidableEq, Repr

/-- What a step or a meaning answers. -/
abbrev Result := Host.Outcome State Fault Refusal

/-- The state after construction or a reset (R37, R234): the spec's values for the state record, no transaction, no call,
nothing on record. The reset line high, the monitor running and the time 0 are choices of the model (log entries 2, 12). -/
def State.reset : State where
  pins           := Vector.replicate 16 Pin.initial
  ptr            := 0
  bankMode       := false
  sequentialMode := false
  rwLen          := 0
  rf             := .waitLow
  halted         := false
  txn            := .idle
  watching       := true
  line           := .high
  now            := 0
  pending        := []
  draws          := 0
  trace          := []

end Sys2Proof.Machine
end

