-- ==== Sys2Proof/Machine/Flags.lean ====
section
/-! DEFINITION. What the two mode flags decide: the address mode (R104) and with it the advance of an address (R105). No
operation but reset writes a flag (R26). -/

namespace Sys2Proof.Machine

/-- The three addressing modes (R104). -/
inductive Mode where
  | fixed
  | toggle
  | cycle
deriving DecidableEq, Repr

/-- `Mode(bank_mode, sequential_mode)` (R104). -/
def modeOf (bankMode sequentialMode : Bool) : Mode :=
  if sequentialMode then .cycle else if bankMode then .fixed else .toggle

/-- `Advance(a, mode)` (R105): Fixed keeps the address (R108), Toggle flips its lowest bit (R107), Cycle adds 1 without
overflow and takes the remainder by 22, out-of-range addresses included (R106, D4). -/
def advance (a : Byte) : Mode → Byte
  | .fixed => a
  | .toggle => a ^^^ 1
  | .cycle => BitVec.ofNat 8 ((a.toNat + 1) % 22)

/-- The mode of the flags as they stand (R109). -/
def State.mode (s : State) : Mode := modeOf s.bankMode s.sequentialMode

/-- `n` advances in one mode. -/
def advances (mode : Mode) : Nat → Byte → Byte
  | 0, a => a
  | n + 1, a => advances mode n (advance a mode)

end Sys2Proof.Machine
end

