-- ==== Sys2Proof/WellFormed.lean ====
section
/-! DEFINITION. Which operations the encodings of the spec can carry. -/

namespace Sys2Proof

/-- `a` decodes to no register: 22 to 255 (R77, R101). -/
def invalidAddress (a : Byte) : Bool := decide (22 ≤ a.toNat)

/-- An invalid access carries an address 22 to 255 (R123, R156); every other operation is well-formed with any operands:
every byte is a register value (R28, R29), a payload may have any length (N27), a count is any natural number (R71). -/
def Instr.wellFormed : Instr → Bool
  | .wrIodirA_b0 _ | .wrIodirB_b0 _ | .wrIpolA_b0 _ | .wrIpolB_b0 _ | .wrGpintenA_b0 _ | .wrGpintenB_b0 _
  | .wrDefvalA_b0 _ | .wrDefvalB_b0 _ | .wrIntconA_b0 _ | .wrIntconB_b0 _ | .wrIoconA_b0 _ | .wrIoconB_b0 _
  | .wrGppuA_b0 _ | .wrGppuB_b0 _ | .wrIntfA_b0 _ | .wrIntfB_b0 _ | .wrIntcapA_b0 _ | .wrIntcapB_b0 _ | .wrGpioA_b0 _
  | .wrGpioB_b0 _ | .wrOlatA_b0 _ | .wrOlatB_b0 _ | .wrIodirA_b1 _ | .wrIpolA_b1 _ | .wrGpintenA_b1 _
  | .wrDefvalA_b1 _ | .wrIntconA_b1 _ | .wrIoconA_b1 _ | .wrGppuA_b1 _ | .wrIntfA_b1 _ | .wrIntcapA_b1 _
  | .wrGpioA_b1 _ | .wrOlatA_b1 _ | .wrIodirB_b1 _ | .wrIpolB_b1 _ | .wrGpintenB_b1 _ | .wrDefvalB_b1 _
  | .wrIntconB_b1 _ | .wrIoconB_b1 _ | .wrGppuB_b1 _ | .wrIntfB_b1 _ | .wrIntcapB_b1 _ | .wrGpioB_b1 _
  | .wrOlatB_b1 _ | .rdIodirA_b0 | .rdIodirB_b0 | .rdIpolA_b0 | .rdIpolB_b0 | .rdGpintenA_b0 | .rdGpintenB_b0
  | .rdDefvalA_b0 | .rdDefvalB_b0 | .rdIntconA_b0 | .rdIntconB_b0 | .rdIoconA_b0 | .rdIoconB_b0 | .rdGppuA_b0
  | .rdGppuB_b0 | .rdIntfA_b0 | .rdIntfB_b0 | .rdIntcapA_b0 | .rdIntcapB_b0 | .rdGpioA_b0 | .rdGpioB_b0 | .rdOlatA_b0
  | .rdOlatB_b0 | .rdIodirA_b1 | .rdIpolA_b1 | .rdGpintenA_b1 | .rdDefvalA_b1 | .rdIntconA_b1 | .rdIoconA_b1
  | .rdGppuA_b1 | .rdIntfA_b1 | .rdIntcapA_b1 | .rdGpioA_b1 | .rdOlatA_b1 | .rdIodirB_b1 | .rdIpolB_b1
  | .rdGpintenB_b1 | .rdDefvalB_b1 | .rdIntconB_b1 | .rdIoconB_b1 | .rdGppuB_b1 | .rdIntfB_b1 | .rdIntcapB_b1
  | .rdGpioB_b1 | .rdOlatB_b1 => true
  | .wrInvalid_b0 a _ => invalidAddress a
  | .wrInvalid_b1 a _ => invalidAddress a
  | .rdInvalid_b0 a => invalidAddress a
  | .rdInvalid_b1 a => invalidAddress a
  | .writeTxn _ => true
  | .prepare _ => true
  | .confirm _ => true
  | .reset => true
  | .run _ => true

end Sys2Proof
end

