-- ==== Sys2Proof/Decode.lean ====
section
/-! DEFINITION. The decoders: an address to a register (R101), a decode key to a register access operation (R74), a call to
a transaction-level operation (R71); after them the encoder, written from the opcode table, and the opcode table's rows. -/

namespace Sys2Proof

/-- The ordinal of a register type (R27). -/
def RegType.ordinal : RegType → Nat
  | .IODIR => 0
  | .IPOL => 1
  | .GPINTEN => 2
  | .DEFVAL => 3
  | .INTCON => 4
  | .IOCON => 5
  | .GPPU => 6
  | .INTF => 7
  | .INTCAP => 8
  | .GPIO => 9
  | .OLAT => 10

/-- The register type of an ordinal; none above 10 (R27, R101). -/
def RegType.ofOrdinal : Nat → Option RegType
  | 0 => some .IODIR
  | 1 => some .IPOL
  | 2 => some .GPINTEN
  | 3 => some .DEFVAL
  | 4 => some .INTCON
  | 5 => some .IOCON
  | 6 => some .GPPU
  | 7 => some .INTF
  | 8 => some .INTCAP
  | 9 => some .GPIO
  | 10 => some .OLAT
  | _ => none

/-- Bank A is 0, bank B is 1 (R6). -/
def Bank.num : Bank → Nat
  | .A => 0
  | .B => 1

/-- IODIR, GPPU, GPIO and OLAT are the implemented types (R27, R202). -/
def RegType.implemented : RegType → Bool
  | .IODIR | .GPPU | .GPIO | .OLAT => true
  | .IPOL | .GPINTEN | .DEFVAL | .INTCON | .IOCON | .INTF | .INTCAP => false

/-- The type ordinal and the bank an address selects, before the range check of R101. -/
def splitAddress (a : Byte) (bankMode : Bool) : Nat × Bank :=
  if bankMode then
    if a.toNat < 11 then (a.toNat, .A) else (a.toNat - 11, .B)
  else
    (a.toNat / 2, if a.toNat % 2 = 0 then .A else .B)

/-- `Decode(a, bank_mode)` of R101: the register an address names, or none. -/
def decodeAddress (a : Byte) (bankMode : Bool) : Option (RegType × Bank) :=
  match RegType.ofOrdinal (splitAddress a bankMode).1 with
  | some t => some (t, (splitAddress a bankMode).2)
  | none => none

/-- The address of register `(t, b)` in a layout (R102). -/
def registerAddress (bankMode : Bool) (t : RegType) (b : Bank) : Byte :=
  if bankMode then BitVec.ofNat 8 (t.ordinal + 11 * b.num) else BitVec.ofNat 8 (2 * t.ordinal + b.num)

/-- The write of register `(t, b)` in a layout: the operation named `WR.<reg><bank>` (R81). -/
def Instr.wr (bankMode : Bool) (t : RegType) (b : Bank) (v : Byte) : Instr :=
  match bankMode, t, b with
  | false, .IODIR, .A => .wrIodirA_b0 v
  | false, .IODIR, .B => .wrIodirB_b0 v
  | false, .IPOL, .A => .wrIpolA_b0 v
  | false, .IPOL, .B => .wrIpolB_b0 v
  | false, .GPINTEN, .A => .wrGpintenA_b0 v
  | false, .GPINTEN, .B => .wrGpintenB_b0 v
  | false, .DEFVAL, .A => .wrDefvalA_b0 v
  | false, .DEFVAL, .B => .wrDefvalB_b0 v
  | false, .INTCON, .A => .wrIntconA_b0 v
  | false, .INTCON, .B => .wrIntconB_b0 v
  | false, .IOCON, .A => .wrIoconA_b0 v
  | false, .IOCON, .B => .wrIoconB_b0 v
  | false, .GPPU, .A => .wrGppuA_b0 v
  | false, .GPPU, .B => .wrGppuB_b0 v
  | false, .INTF, .A => .wrIntfA_b0 v
  | false, .INTF, .B => .wrIntfB_b0 v
  | false, .INTCAP, .A => .wrIntcapA_b0 v
  | false, .INTCAP, .B => .wrIntcapB_b0 v
  | false, .GPIO, .A => .wrGpioA_b0 v
  | false, .GPIO, .B => .wrGpioB_b0 v
  | false, .OLAT, .A => .wrOlatA_b0 v
  | false, .OLAT, .B => .wrOlatB_b0 v
  | true, .IODIR, .A => .wrIodirA_b1 v
  | true, .IODIR, .B => .wrIodirB_b1 v
  | true, .IPOL, .A => .wrIpolA_b1 v
  | true, .IPOL, .B => .wrIpolB_b1 v
  | true, .GPINTEN, .A => .wrGpintenA_b1 v
  | true, .GPINTEN, .B => .wrGpintenB_b1 v
  | true, .DEFVAL, .A => .wrDefvalA_b1 v
  | true, .DEFVAL, .B => .wrDefvalB_b1 v
  | true, .INTCON, .A => .wrIntconA_b1 v
  | true, .INTCON, .B => .wrIntconB_b1 v
  | true, .IOCON, .A => .wrIoconA_b1 v
  | true, .IOCON, .B => .wrIoconB_b1 v
  | true, .GPPU, .A => .wrGppuA_b1 v
  | true, .GPPU, .B => .wrGppuB_b1 v
  | true, .INTF, .A => .wrIntfA_b1 v
  | true, .INTF, .B => .wrIntfB_b1 v
  | true, .INTCAP, .A => .wrIntcapA_b1 v
  | true, .INTCAP, .B => .wrIntcapB_b1 v
  | true, .GPIO, .A => .wrGpioA_b1 v
  | true, .GPIO, .B => .wrGpioB_b1 v
  | true, .OLAT, .A => .wrOlatA_b1 v
  | true, .OLAT, .B => .wrOlatB_b1 v

/-- The read of register `(t, b)` in a layout: the operation named `RD.<reg><bank>` (R81). -/
def Instr.rd (bankMode : Bool) (t : RegType) (b : Bank) : Instr :=
  match bankMode, t, b with
  | false, .IODIR, .A => .rdIodirA_b0
  | false, .IODIR, .B => .rdIodirB_b0
  | false, .IPOL, .A => .rdIpolA_b0
  | false, .IPOL, .B => .rdIpolB_b0
  | false, .GPINTEN, .A => .rdGpintenA_b0
  | false, .GPINTEN, .B => .rdGpintenB_b0
  | false, .DEFVAL, .A => .rdDefvalA_b0
  | false, .DEFVAL, .B => .rdDefvalB_b0
  | false, .INTCON, .A => .rdIntconA_b0
  | false, .INTCON, .B => .rdIntconB_b0
  | false, .IOCON, .A => .rdIoconA_b0
  | false, .IOCON, .B => .rdIoconB_b0
  | false, .GPPU, .A => .rdGppuA_b0
  | false, .GPPU, .B => .rdGppuB_b0
  | false, .INTF, .A => .rdIntfA_b0
  | false, .INTF, .B => .rdIntfB_b0
  | false, .INTCAP, .A => .rdIntcapA_b0
  | false, .INTCAP, .B => .rdIntcapB_b0
  | false, .GPIO, .A => .rdGpioA_b0
  | false, .GPIO, .B => .rdGpioB_b0
  | false, .OLAT, .A => .rdOlatA_b0
  | false, .OLAT, .B => .rdOlatB_b0
  | true, .IODIR, .A => .rdIodirA_b1
  | true, .IODIR, .B => .rdIodirB_b1
  | true, .IPOL, .A => .rdIpolA_b1
  | true, .IPOL, .B => .rdIpolB_b1
  | true, .GPINTEN, .A => .rdGpintenA_b1
  | true, .GPINTEN, .B => .rdGpintenB_b1
  | true, .DEFVAL, .A => .rdDefvalA_b1
  | true, .DEFVAL, .B => .rdDefvalB_b1
  | true, .INTCON, .A => .rdIntconA_b1
  | true, .INTCON, .B => .rdIntconB_b1
  | true, .IOCON, .A => .rdIoconA_b1
  | true, .IOCON, .B => .rdIoconB_b1
  | true, .GPPU, .A => .rdGppuA_b1
  | true, .GPPU, .B => .rdGppuB_b1
  | true, .INTF, .A => .rdIntfA_b1
  | true, .INTF, .B => .rdIntfB_b1
  | true, .INTCAP, .A => .rdIntcapA_b1
  | true, .INTCAP, .B => .rdIntcapB_b1
  | true, .GPIO, .A => .rdGpioA_b1
  | true, .GPIO, .B => .rdGpioB_b1
  | true, .OLAT, .A => .rdOlatA_b1
  | true, .OLAT, .B => .rdOlatB_b1

/-- The operation a write data byte performs (R74 with dir 0, R122). -/
def decodeWrite (a : Byte) (bankMode : Bool) (v : Byte) : Instr :=
  match decodeAddress a bankMode with
  | some (t, b) => Instr.wr bankMode t b v
  | none => if bankMode then .wrInvalid_b1 a v else .wrInvalid_b0 a v

/-- The operation a buffer byte performs (R74 with dir 1, R152). -/
def decodeRead (a : Byte) (bankMode : Bool) : Instr :=
  match decodeAddress a bankMode with
  | some (t, b) => Instr.rd bankMode t b
  | none => if bankMode then .rdInvalid_b1 a else .rdInvalid_b0 a

/-- `key = {dir, bank_mode, addr}` (R74). -/
def accessKey (dir : AccessDir) (bankMode : Bool) (a : Byte) : Key :=
  BitVec.ofNat 10 ((if dir = .rd then 512 else 0) + (if bankMode then 256 else 0) + a.toNat)

/-- `key[7:0]` (R74). -/
def keyAddr (key : Key) : Byte := BitVec.ofNat 8 key.toNat

/-- `key[8]` (R74). -/
def keyBankMode (key : Key) : Bool := key.getLsbD 8

/-- `key[9]` (R74). -/
def keyDir (key : Key) : AccessDir := if key.getLsbD 9 then .rd else .wr

/-- The decode of a key: total, each key is exactly one operation (R74, R78). -/
def decodeKey (key : Key) (data : Byte) : Instr :=
  match keyDir key with
  | .wr => decodeWrite (keyAddr key) (keyBankMode key) data
  | .rd => decodeRead (keyAddr key) (keyBankMode key)

/-- The payload of `WRITE_TXN`: operand words that are bytes (R72). -/
def payloadOf : List Nat → Except Reject (List Byte)
  | [] => .ok []
  | w :: ws =>
    if w < 256 then
      match payloadOf ws with
      | .ok bytes => .ok (BitVec.ofNat 8 w :: bytes)
      | .error r => .error r
    else .error (.wordNotAByte w)

/-- An entry point with one number operand (R71); a missing word reads as 0. -/
def countOf : List Nat → Except Reject Nat
  | [] => .ok 0
  | [n] => .ok n
  | _ :: _ :: _ => .error .tooManyOperands

/-- The step of `RUN` its operand word names: 0 a change to low, 1 a change to high, 2 an entry (R243). -/
def runStepOf (time : Nat) (word : Nat) : Except Reject RunStep :=
  match word with
  | 0 => .ok (.change .low time)
  | 1 => .ok (.change .high time)
  | 2 => .ok (.entry time)
  | w => .error (.noSuchRunStep w)

/-- The entry code: bits 2 to 0 of the header (R71; the table's mask is 0x7). -/
def entryCode (header : Byte) : Nat := header.toNat % 8

/-- The decode of a call (R71). -/
def decodeCall (c : Call) : Except Reject Instr :=
  match entryCode c.header with
  | 0 => match payloadOf c.operands with
    | .ok bytes => .ok (.writeTxn bytes)
    | .error r => .error r
  | 1 => match countOf c.operands with
    | .ok n => .ok (.prepare n)
    | .error r => .error r
  | 2 => match countOf c.operands with
    | .ok n => .ok (.confirm n)
    | .error r => .error r
  | 3 => match c.operands with
    | [] => .ok .reset
    | _ :: _ => .error .tooManyOperands
  | 4 => match countOf c.operands with
    | .ok w => match runStepOf c.time w with
      | .ok step => .ok (.run step)
      | .error r => .error r
    | .error r => .error r
  | code => .error (.noSuchEntryPoint code)

/-- The decoder. -/
def decode : Fetched → Except Reject Instr
  | .call c => decodeCall c
  | .access key data => .ok (decodeKey key data)

/-- What the decoder is given for one row of the opcode table: a row of 8 bits is a call's header (the ENTRY rows, mask 0x7)
with no operand word, a wider one the decode key (the REGACCESS rows, mask 0x3ff) with data byte 0. Bits outside the
row's mask are not looked at (log entry 4). -/
def fetchedOfTableWord (time nbits w : Nat) : Fetched :=
  if nbits ≤ 8 then .call ⟨time, BitVec.ofNat 8 w, []⟩ else .access (BitVec.ofNat 10 w) 0

/-- The operation the decoder reads from a row's bits, numbered as the opcode table numbers them. -/
def decodeTableWord (nbits w : Nat) : Option Instr :=
  match decode (fetchedOfTableWord 0 nbits w) with
  | .ok i => some i
  | .error _ => none

/-- The decoder's input for each operation: the table's `match` value as the key, or the entry code and the operands. -/
def encode : Instr → Fetched
  | .wrIodirA_b0 v => .access 0x0#10 v
  | .wrIodirB_b0 v => .access 0x1#10 v
  | .wrIpolA_b0 v => .access 0x2#10 v
  | .wrIpolB_b0 v => .access 0x3#10 v
  | .wrGpintenA_b0 v => .access 0x4#10 v
  | .wrGpintenB_b0 v => .access 0x5#10 v
  | .wrDefvalA_b0 v => .access 0x6#10 v
  | .wrDefvalB_b0 v => .access 0x7#10 v
  | .wrIntconA_b0 v => .access 0x8#10 v
  | .wrIntconB_b0 v => .access 0x9#10 v
  | .wrIoconA_b0 v => .access 0xa#10 v
  | .wrIoconB_b0 v => .access 0xb#10 v
  | .wrGppuA_b0 v => .access 0xc#10 v
  | .wrGppuB_b0 v => .access 0xd#10 v
  | .wrIntfA_b0 v => .access 0xe#10 v
  | .wrIntfB_b0 v => .access 0xf#10 v
  | .wrIntcapA_b0 v => .access 0x10#10 v
  | .wrIntcapB_b0 v => .access 0x11#10 v
  | .wrGpioA_b0 v => .access 0x12#10 v
  | .wrGpioB_b0 v => .access 0x13#10 v
  | .wrOlatA_b0 v => .access 0x14#10 v
  | .wrOlatB_b0 v => .access 0x15#10 v
  | .wrIodirA_b1 v => .access 0x100#10 v
  | .wrIpolA_b1 v => .access 0x101#10 v
  | .wrGpintenA_b1 v => .access 0x102#10 v
  | .wrDefvalA_b1 v => .access 0x103#10 v
  | .wrIntconA_b1 v => .access 0x104#10 v
  | .wrIoconA_b1 v => .access 0x105#10 v
  | .wrGppuA_b1 v => .access 0x106#10 v
  | .wrIntfA_b1 v => .access 0x107#10 v
  | .wrIntcapA_b1 v => .access 0x108#10 v
  | .wrGpioA_b1 v => .access 0x109#10 v
  | .wrOlatA_b1 v => .access 0x10a#10 v
  | .wrIodirB_b1 v => .access 0x10b#10 v
  | .wrIpolB_b1 v => .access 0x10c#10 v
  | .wrGpintenB_b1 v => .access 0x10d#10 v
  | .wrDefvalB_b1 v => .access 0x10e#10 v
  | .wrIntconB_b1 v => .access 0x10f#10 v
  | .wrIoconB_b1 v => .access 0x110#10 v
  | .wrGppuB_b1 v => .access 0x111#10 v
  | .wrIntfB_b1 v => .access 0x112#10 v
  | .wrIntcapB_b1 v => .access 0x113#10 v
  | .wrGpioB_b1 v => .access 0x114#10 v
  | .wrOlatB_b1 v => .access 0x115#10 v
  | .wrInvalid_b0 a v => .access (accessKey .wr false a) v
  | .wrInvalid_b1 a v => .access (accessKey .wr true a) v
  | .rdIodirA_b0 => .access 0x200#10 0
  | .rdIodirB_b0 => .access 0x201#10 0
  | .rdIpolA_b0 => .access 0x202#10 0
  | .rdIpolB_b0 => .access 0x203#10 0
  | .rdGpintenA_b0 => .access 0x204#10 0
  | .rdGpintenB_b0 => .access 0x205#10 0
  | .rdDefvalA_b0 => .access 0x206#10 0
  | .rdDefvalB_b0 => .access 0x207#10 0
  | .rdIntconA_b0 => .access 0x208#10 0
  | .rdIntconB_b0 => .access 0x209#10 0
  | .rdIoconA_b0 => .access 0x20a#10 0
  | .rdIoconB_b0 => .access 0x20b#10 0
  | .rdGppuA_b0 => .access 0x20c#10 0
  | .rdGppuB_b0 => .access 0x20d#10 0
  | .rdIntfA_b0 => .access 0x20e#10 0
  | .rdIntfB_b0 => .access 0x20f#10 0
  | .rdIntcapA_b0 => .access 0x210#10 0
  | .rdIntcapB_b0 => .access 0x211#10 0
  | .rdGpioA_b0 => .access 0x212#10 0
  | .rdGpioB_b0 => .access 0x213#10 0
  | .rdOlatA_b0 => .access 0x214#10 0
  | .rdOlatB_b0 => .access 0x215#10 0
  | .rdIodirA_b1 => .access 0x300#10 0
  | .rdIpolA_b1 => .access 0x301#10 0
  | .rdGpintenA_b1 => .access 0x302#10 0
  | .rdDefvalA_b1 => .access 0x303#10 0
  | .rdIntconA_b1 => .access 0x304#10 0
  | .rdIoconA_b1 => .access 0x305#10 0
  | .rdGppuA_b1 => .access 0x306#10 0
  | .rdIntfA_b1 => .access 0x307#10 0
  | .rdIntcapA_b1 => .access 0x308#10 0
  | .rdGpioA_b1 => .access 0x309#10 0
  | .rdOlatA_b1 => .access 0x30a#10 0
  | .rdIodirB_b1 => .access 0x30b#10 0
  | .rdIpolB_b1 => .access 0x30c#10 0
  | .rdGpintenB_b1 => .access 0x30d#10 0
  | .rdDefvalB_b1 => .access 0x30e#10 0
  | .rdIntconB_b1 => .access 0x30f#10 0
  | .rdIoconB_b1 => .access 0x310#10 0
  | .rdGppuB_b1 => .access 0x311#10 0
  | .rdIntfB_b1 => .access 0x312#10 0
  | .rdIntcapB_b1 => .access 0x313#10 0
  | .rdGpioB_b1 => .access 0x314#10 0
  | .rdOlatB_b1 => .access 0x315#10 0
  | .rdInvalid_b0 a => .access (accessKey .rd false a) 0
  | .rdInvalid_b1 a => .access (accessKey .rd true a) 0
  | .writeTxn bytes => .call ⟨0, 0, bytes.map BitVec.toNat⟩
  | .prepare len => .call ⟨0, 1, [len]⟩
  | .confirm n => .call ⟨0, 2, [n]⟩
  | .reset => .call ⟨0, 3, []⟩
  | .run (.change .low time) => .call ⟨time, 4, [0]⟩
  | .run (.change .high time) => .call ⟨time, 4, [1]⟩
  | .run (.entry time) => .call ⟨time, 4, [2]⟩

/-- The mnemonic of each operation, as the opcode table spells it (R81). -/
def Instr.mnemonic : Instr → String
  | .wrIodirA_b0 _ => "WR.IODIRA.b0"
  | .wrIodirB_b0 _ => "WR.IODIRB.b0"
  | .wrIpolA_b0 _ => "WR.IPOLA.b0"
  | .wrIpolB_b0 _ => "WR.IPOLB.b0"
  | .wrGpintenA_b0 _ => "WR.GPINTENA.b0"
  | .wrGpintenB_b0 _ => "WR.GPINTENB.b0"
  | .wrDefvalA_b0 _ => "WR.DEFVALA.b0"
  | .wrDefvalB_b0 _ => "WR.DEFVALB.b0"
  | .wrIntconA_b0 _ => "WR.INTCONA.b0"
  | .wrIntconB_b0 _ => "WR.INTCONB.b0"
  | .wrIoconA_b0 _ => "WR.IOCONA.b0"
  | .wrIoconB_b0 _ => "WR.IOCONB.b0"
  | .wrGppuA_b0 _ => "WR.GPPUA.b0"
  | .wrGppuB_b0 _ => "WR.GPPUB.b0"
  | .wrIntfA_b0 _ => "WR.INTFA.b0"
  | .wrIntfB_b0 _ => "WR.INTFB.b0"
  | .wrIntcapA_b0 _ => "WR.INTCAPA.b0"
  | .wrIntcapB_b0 _ => "WR.INTCAPB.b0"
  | .wrGpioA_b0 _ => "WR.GPIOA.b0"
  | .wrGpioB_b0 _ => "WR.GPIOB.b0"
  | .wrOlatA_b0 _ => "WR.OLATA.b0"
  | .wrOlatB_b0 _ => "WR.OLATB.b0"
  | .wrIodirA_b1 _ => "WR.IODIRA.b1"
  | .wrIpolA_b1 _ => "WR.IPOLA.b1"
  | .wrGpintenA_b1 _ => "WR.GPINTENA.b1"
  | .wrDefvalA_b1 _ => "WR.DEFVALA.b1"
  | .wrIntconA_b1 _ => "WR.INTCONA.b1"
  | .wrIoconA_b1 _ => "WR.IOCONA.b1"
  | .wrGppuA_b1 _ => "WR.GPPUA.b1"
  | .wrIntfA_b1 _ => "WR.INTFA.b1"
  | .wrIntcapA_b1 _ => "WR.INTCAPA.b1"
  | .wrGpioA_b1 _ => "WR.GPIOA.b1"
  | .wrOlatA_b1 _ => "WR.OLATA.b1"
  | .wrIodirB_b1 _ => "WR.IODIRB.b1"
  | .wrIpolB_b1 _ => "WR.IPOLB.b1"
  | .wrGpintenB_b1 _ => "WR.GPINTENB.b1"
  | .wrDefvalB_b1 _ => "WR.DEFVALB.b1"
  | .wrIntconB_b1 _ => "WR.INTCONB.b1"
  | .wrIoconB_b1 _ => "WR.IOCONB.b1"
  | .wrGppuB_b1 _ => "WR.GPPUB.b1"
  | .wrIntfB_b1 _ => "WR.INTFB.b1"
  | .wrIntcapB_b1 _ => "WR.INTCAPB.b1"
  | .wrGpioB_b1 _ => "WR.GPIOB.b1"
  | .wrOlatB_b1 _ => "WR.OLATB.b1"
  | .wrInvalid_b0 _ _ => "WR.INVALID.b0"
  | .wrInvalid_b1 _ _ => "WR.INVALID.b1"
  | .rdIodirA_b0 => "RD.IODIRA.b0"
  | .rdIodirB_b0 => "RD.IODIRB.b0"
  | .rdIpolA_b0 => "RD.IPOLA.b0"
  | .rdIpolB_b0 => "RD.IPOLB.b0"
  | .rdGpintenA_b0 => "RD.GPINTENA.b0"
  | .rdGpintenB_b0 => "RD.GPINTENB.b0"
  | .rdDefvalA_b0 => "RD.DEFVALA.b0"
  | .rdDefvalB_b0 => "RD.DEFVALB.b0"
  | .rdIntconA_b0 => "RD.INTCONA.b0"
  | .rdIntconB_b0 => "RD.INTCONB.b0"
  | .rdIoconA_b0 => "RD.IOCONA.b0"
  | .rdIoconB_b0 => "RD.IOCONB.b0"
  | .rdGppuA_b0 => "RD.GPPUA.b0"
  | .rdGppuB_b0 => "RD.GPPUB.b0"
  | .rdIntfA_b0 => "RD.INTFA.b0"
  | .rdIntfB_b0 => "RD.INTFB.b0"
  | .rdIntcapA_b0 => "RD.INTCAPA.b0"
  | .rdIntcapB_b0 => "RD.INTCAPB.b0"
  | .rdGpioA_b0 => "RD.GPIOA.b0"
  | .rdGpioB_b0 => "RD.GPIOB.b0"
  | .rdOlatA_b0 => "RD.OLATA.b0"
  | .rdOlatB_b0 => "RD.OLATB.b0"
  | .rdIodirA_b1 => "RD.IODIRA.b1"
  | .rdIpolA_b1 => "RD.IPOLA.b1"
  | .rdGpintenA_b1 => "RD.GPINTENA.b1"
  | .rdDefvalA_b1 => "RD.DEFVALA.b1"
  | .rdIntconA_b1 => "RD.INTCONA.b1"
  | .rdIoconA_b1 => "RD.IOCONA.b1"
  | .rdGppuA_b1 => "RD.GPPUA.b1"
  | .rdIntfA_b1 => "RD.INTFA.b1"
  | .rdIntcapA_b1 => "RD.INTCAPA.b1"
  | .rdGpioA_b1 => "RD.GPIOA.b1"
  | .rdOlatA_b1 => "RD.OLATA.b1"
  | .rdIodirB_b1 => "RD.IODIRB.b1"
  | .rdIpolB_b1 => "RD.IPOLB.b1"
  | .rdGpintenB_b1 => "RD.GPINTENB.b1"
  | .rdDefvalB_b1 => "RD.DEFVALB.b1"
  | .rdIntconB_b1 => "RD.INTCONB.b1"
  | .rdIoconB_b1 => "RD.IOCONB.b1"
  | .rdGppuB_b1 => "RD.GPPUB.b1"
  | .rdIntfB_b1 => "RD.INTFB.b1"
  | .rdIntcapB_b1 => "RD.INTCAPB.b1"
  | .rdGpioB_b1 => "RD.GPIOB.b1"
  | .rdOlatB_b1 => "RD.OLATB.b1"
  | .rdInvalid_b0 _ => "RD.INVALID.b0"
  | .rdInvalid_b1 _ => "RD.INVALID.b1"
  | .writeTxn _ => "WRITE_TXN"
  | .prepare _ => "PREPARE"
  | .confirm _ => "CONFIRM"
  | .reset => "RESET"
  | .run _ => "RUN"

/-- A row of the opcode table over the decode key: a key belongs to the row where its masked bits are the pattern. -/
structure AccessRow where
  mnemonic : String
  pattern  : Key
  mask     : Key
deriving DecidableEq, Repr

/-- Whether a key belongs to a row. -/
def AccessRow.covers (r : AccessRow) (key : Key) : Bool := key &&& r.mask == r.pattern

/-- The opcode table's rows: writes with `bank_mode` 0. -/
def writeRowsInterleaved : List AccessRow :=
  [⟨"WR.IODIRA.b0", 0x0#10, 0x3ff#10⟩,
   ⟨"WR.IODIRB.b0", 0x1#10, 0x3ff#10⟩,
   ⟨"WR.IPOLA.b0", 0x2#10, 0x3ff#10⟩,
   ⟨"WR.IPOLB.b0", 0x3#10, 0x3ff#10⟩,
   ⟨"WR.GPINTENA.b0", 0x4#10, 0x3ff#10⟩,
   ⟨"WR.GPINTENB.b0", 0x5#10, 0x3ff#10⟩,
   ⟨"WR.DEFVALA.b0", 0x6#10, 0x3ff#10⟩,
   ⟨"WR.DEFVALB.b0", 0x7#10, 0x3ff#10⟩,
   ⟨"WR.INTCONA.b0", 0x8#10, 0x3ff#10⟩,
   ⟨"WR.INTCONB.b0", 0x9#10, 0x3ff#10⟩,
   ⟨"WR.IOCONA.b0", 0xa#10, 0x3ff#10⟩,
   ⟨"WR.IOCONB.b0", 0xb#10, 0x3ff#10⟩,
   ⟨"WR.GPPUA.b0", 0xc#10, 0x3ff#10⟩,
   ⟨"WR.GPPUB.b0", 0xd#10, 0x3ff#10⟩] ++
  [⟨"WR.INTFA.b0", 0xe#10, 0x3ff#10⟩,
   ⟨"WR.INTFB.b0", 0xf#10, 0x3ff#10⟩,
   ⟨"WR.INTCAPA.b0", 0x10#10, 0x3ff#10⟩,
   ⟨"WR.INTCAPB.b0", 0x11#10, 0x3ff#10⟩,
   ⟨"WR.GPIOA.b0", 0x12#10, 0x3ff#10⟩,
   ⟨"WR.GPIOB.b0", 0x13#10, 0x3ff#10⟩,
   ⟨"WR.OLATA.b0", 0x14#10, 0x3ff#10⟩,
   ⟨"WR.OLATB.b0", 0x15#10, 0x3ff#10⟩,
   ⟨"WR.INVALID.b0", 0x16#10, 0x3fe#10⟩,
   ⟨"WR.INVALID.b0", 0x18#10, 0x3f8#10⟩,
   ⟨"WR.INVALID.b0", 0x20#10, 0x3e0#10⟩,
   ⟨"WR.INVALID.b0", 0x40#10, 0x3c0#10⟩,
   ⟨"WR.INVALID.b0", 0x80#10, 0x380#10⟩]

/-- The opcode table's rows: writes with `bank_mode` 1. -/
def writeRowsGrouped : List AccessRow :=
  [⟨"WR.IODIRA.b1", 0x100#10, 0x3ff#10⟩,
   ⟨"WR.IPOLA.b1", 0x101#10, 0x3ff#10⟩,
   ⟨"WR.GPINTENA.b1", 0x102#10, 0x3ff#10⟩,
   ⟨"WR.DEFVALA.b1", 0x103#10, 0x3ff#10⟩,
   ⟨"WR.INTCONA.b1", 0x104#10, 0x3ff#10⟩,
   ⟨"WR.IOCONA.b1", 0x105#10, 0x3ff#10⟩,
   ⟨"WR.GPPUA.b1", 0x106#10, 0x3ff#10⟩,
   ⟨"WR.INTFA.b1", 0x107#10, 0x3ff#10⟩,
   ⟨"WR.INTCAPA.b1", 0x108#10, 0x3ff#10⟩,
   ⟨"WR.GPIOA.b1", 0x109#10, 0x3ff#10⟩,
   ⟨"WR.OLATA.b1", 0x10a#10, 0x3ff#10⟩,
   ⟨"WR.IODIRB.b1", 0x10b#10, 0x3ff#10⟩,
   ⟨"WR.IPOLB.b1", 0x10c#10, 0x3ff#10⟩,
   ⟨"WR.GPINTENB.b1", 0x10d#10, 0x3ff#10⟩] ++
  [⟨"WR.DEFVALB.b1", 0x10e#10, 0x3ff#10⟩,
   ⟨"WR.INTCONB.b1", 0x10f#10, 0x3ff#10⟩,
   ⟨"WR.IOCONB.b1", 0x110#10, 0x3ff#10⟩,
   ⟨"WR.GPPUB.b1", 0x111#10, 0x3ff#10⟩,
   ⟨"WR.INTFB.b1", 0x112#10, 0x3ff#10⟩,
   ⟨"WR.INTCAPB.b1", 0x113#10, 0x3ff#10⟩,
   ⟨"WR.GPIOB.b1", 0x114#10, 0x3ff#10⟩,
   ⟨"WR.OLATB.b1", 0x115#10, 0x3ff#10⟩,
   ⟨"WR.INVALID.b1", 0x116#10, 0x3fe#10⟩,
   ⟨"WR.INVALID.b1", 0x118#10, 0x3f8#10⟩,
   ⟨"WR.INVALID.b1", 0x120#10, 0x3e0#10⟩,
   ⟨"WR.INVALID.b1", 0x140#10, 0x3c0#10⟩,
   ⟨"WR.INVALID.b1", 0x180#10, 0x380#10⟩]

/-- The opcode table's rows: reads with `bank_mode` 0. -/
def readRowsInterleaved : List AccessRow :=
  [⟨"RD.IODIRA.b0", 0x200#10, 0x3ff#10⟩,
   ⟨"RD.IODIRB.b0", 0x201#10, 0x3ff#10⟩,
   ⟨"RD.IPOLA.b0", 0x202#10, 0x3ff#10⟩,
   ⟨"RD.IPOLB.b0", 0x203#10, 0x3ff#10⟩,
   ⟨"RD.GPINTENA.b0", 0x204#10, 0x3ff#10⟩,
   ⟨"RD.GPINTENB.b0", 0x205#10, 0x3ff#10⟩,
   ⟨"RD.DEFVALA.b0", 0x206#10, 0x3ff#10⟩,
   ⟨"RD.DEFVALB.b0", 0x207#10, 0x3ff#10⟩,
   ⟨"RD.INTCONA.b0", 0x208#10, 0x3ff#10⟩,
   ⟨"RD.INTCONB.b0", 0x209#10, 0x3ff#10⟩,
   ⟨"RD.IOCONA.b0", 0x20a#10, 0x3ff#10⟩,
   ⟨"RD.IOCONB.b0", 0x20b#10, 0x3ff#10⟩,
   ⟨"RD.GPPUA.b0", 0x20c#10, 0x3ff#10⟩,
   ⟨"RD.GPPUB.b0", 0x20d#10, 0x3ff#10⟩] ++
  [⟨"RD.INTFA.b0", 0x20e#10, 0x3ff#10⟩,
   ⟨"RD.INTFB.b0", 0x20f#10, 0x3ff#10⟩,
   ⟨"RD.INTCAPA.b0", 0x210#10, 0x3ff#10⟩,
   ⟨"RD.INTCAPB.b0", 0x211#10, 0x3ff#10⟩,
   ⟨"RD.GPIOA.b0", 0x212#10, 0x3ff#10⟩,
   ⟨"RD.GPIOB.b0", 0x213#10, 0x3ff#10⟩,
   ⟨"RD.OLATA.b0", 0x214#10, 0x3ff#10⟩,
   ⟨"RD.OLATB.b0", 0x215#10, 0x3ff#10⟩,
   ⟨"RD.INVALID.b0", 0x216#10, 0x3fe#10⟩,
   ⟨"RD.INVALID.b0", 0x218#10, 0x3f8#10⟩,
   ⟨"RD.INVALID.b0", 0x220#10, 0x3e0#10⟩,
   ⟨"RD.INVALID.b0", 0x240#10, 0x3c0#10⟩,
   ⟨"RD.INVALID.b0", 0x280#10, 0x380#10⟩]

/-- The opcode table's rows: reads with `bank_mode` 1. -/
def readRowsGrouped : List AccessRow :=
  [⟨"RD.IODIRA.b1", 0x300#10, 0x3ff#10⟩,
   ⟨"RD.IPOLA.b1", 0x301#10, 0x3ff#10⟩,
   ⟨"RD.GPINTENA.b1", 0x302#10, 0x3ff#10⟩,
   ⟨"RD.DEFVALA.b1", 0x303#10, 0x3ff#10⟩,
   ⟨"RD.INTCONA.b1", 0x304#10, 0x3ff#10⟩,
   ⟨"RD.IOCONA.b1", 0x305#10, 0x3ff#10⟩,
   ⟨"RD.GPPUA.b1", 0x306#10, 0x3ff#10⟩,
   ⟨"RD.INTFA.b1", 0x307#10, 0x3ff#10⟩,
   ⟨"RD.INTCAPA.b1", 0x308#10, 0x3ff#10⟩,
   ⟨"RD.GPIOA.b1", 0x309#10, 0x3ff#10⟩,
   ⟨"RD.OLATA.b1", 0x30a#10, 0x3ff#10⟩,
   ⟨"RD.IODIRB.b1", 0x30b#10, 0x3ff#10⟩,
   ⟨"RD.IPOLB.b1", 0x30c#10, 0x3ff#10⟩,
   ⟨"RD.GPINTENB.b1", 0x30d#10, 0x3ff#10⟩] ++
  [⟨"RD.DEFVALB.b1", 0x30e#10, 0x3ff#10⟩,
   ⟨"RD.INTCONB.b1", 0x30f#10, 0x3ff#10⟩,
   ⟨"RD.IOCONB.b1", 0x310#10, 0x3ff#10⟩,
   ⟨"RD.GPPUB.b1", 0x311#10, 0x3ff#10⟩,
   ⟨"RD.INTFB.b1", 0x312#10, 0x3ff#10⟩,
   ⟨"RD.INTCAPB.b1", 0x313#10, 0x3ff#10⟩,
   ⟨"RD.GPIOB.b1", 0x314#10, 0x3ff#10⟩,
   ⟨"RD.OLATB.b1", 0x315#10, 0x3ff#10⟩,
   ⟨"RD.INVALID.b1", 0x316#10, 0x3fe#10⟩,
   ⟨"RD.INVALID.b1", 0x318#10, 0x3f8#10⟩,
   ⟨"RD.INVALID.b1", 0x320#10, 0x3e0#10⟩,
   ⟨"RD.INVALID.b1", 0x340#10, 0x3c0#10⟩,
   ⟨"RD.INVALID.b1", 0x380#10, 0x380#10⟩]

/-- The 108 REGACCESS rows of the opcode table. -/
def accessRows : List AccessRow :=
  writeRowsInterleaved ++ writeRowsGrouped ++ readRowsInterleaved ++ readRowsGrouped

/-- The 5 ENTRY rows of the opcode table: mnemonic and entry code, mask 0x7. -/
def entryRows : List (String × Nat) :=
  [("WRITE_TXN", 0), ("PREPARE", 1), ("CONFIRM", 2), ("RESET", 3), ("RUN", 4)]

/-- Whether what the decoder is given lies in a row of the opcode table with this mnemonic. -/
def inRowOf (mnemonic : String) : Fetched → Bool
  | .access key _ => accessRows.any fun r => r.covers key && r.mnemonic == mnemonic
  | .call c => entryRows.any fun r => r.2 == entryCode c.header && r.1 == mnemonic

end Sys2Proof
end

