-- ==== Sys2Proof/Machine/Operands.lean ====
section
/-! DEFINITION. Register bytes and pins: which pin a bit of a bank's byte belongs to (R2, R52), and a byte from its eight
one-bit lanes (R76). -/

namespace Sys2Proof.Machine

/-- `bank(i) = i / 8` (R2). -/
def bankOf (i : Fin 16) : Bank := if i.val / 8 = 0 then .A else .B

/-- A pin's position in its bank, `i mod 8` (R2): its lane in the bank's byte (R52). -/
def laneOf (i : Fin 16) : Fin 8 := ⟨i.val % 8, Nat.mod_lt _ (by decide)⟩

/-- Pin `8*b + k` (R52). -/
def pinOf (b : Bank) (k : Fin 8) : Fin 16 :=
  ⟨8 * b.num + k.val, by cases b <;> simp only [Bank.num] <;> omega⟩

/-- The pins of a bank in ascending order. -/
def bankPins (b : Bank) : List (Fin 16) := (List.finRange 8).map (pinOf b)

/-- The byte whose lane `k` is `f k` (R76). -/
def byteOf (f : Fin 8 → Bool) : Byte :=
  (List.finRange 8).foldl (fun acc k => acc ||| (if f k then 1#8 <<< k.val else 0#8)) 0#8

/-- Lane `k` of a byte: bit `k`, bit 0 the least significant (R52, R76). -/
def lane (v : Byte) (k : Fin 8) : Bool := v.getLsbD k.val

/-- An IODIR lane as a direction: 1 is Input (R6, R28). -/
def Dir.ofBit (bit : Bool) : Dir := if bit then .input else .output

/-- A direction as an IODIR lane (R6, R28). -/
def Dir.toBit : Dir → Bool
  | .input => true
  | .output => false

end Sys2Proof.Machine
end

