-- ==== Sys2Proof/Machine/Ops.lean ====
section
/-! DEFINITION. The named operations the meanings are written over: updates of single fields, the output, the pushes of
changed pins (R136, R137), the fatal fault (R203), the pointer (R124), a buffer byte (R150) and the reset (R230). -/

namespace Sys2Proof.Machine

/-! ### Updates of single fields -/

def State.setPins (pins : Vector Pin 16) (s : State) : State := { s with pins := pins }
def State.setPtr (a : Byte) (s : State) : State := { s with ptr := a }
def State.setFlags (bankMode sequentialMode : Bool) (s : State) : State :=
  { s with bankMode := bankMode, sequentialMode := sequentialMode }
def State.setRwLen (n : Nat) (s : State) : State := { s with rwLen := n }
def State.setRf (rf : FilterState) (s : State) : State := { s with rf := rf }
def State.setHalted (s : State) : State := { s with halted := true }
def State.setTxn (txn : Txn) (s : State) : State := { s with txn := txn }
def State.setWatching (watching : Bool) (s : State) : State := { s with watching := watching }
def State.setLine (level : Level) (s : State) : State := { s with line := level }
def State.setNow (t : Nat) (s : State) : State := { s with now := t }
def State.setPending (calls : List Call) (s : State) : State := { s with pending := calls }

/-- One free value has been taken: the next is another draw. -/
def State.drawn (s : State) : State := { s with draws := s.draws + 1 }

/-- Outputs are appended in the order they occur (R206). -/
def State.emit (outs : List Output) (s : State) : State := { s with trace := s.trace ++ outs }

/-- `diag(Code, info)` (R206): the operation goes on. -/
def State.diag (d : Diag) (s : State) : State := s.emit [.diag d]

/-! ### When an operation runs -/

/-- An operation has a step only while the core is not halted (R204). -/
def running (s : State) (after : State) : Result := if s.halted then .fault .coreHalted else .next after

/-! ### An order the spec leaves open -/

/-- `x` put into a list at a position; behind the last element if the position is past it. -/
def insertAt {α : Type} (x : α) (n : Nat) : List α → List α
  | [] => [x]
  | y :: l =>
    match n with
    | 0 => x :: y :: l
    | m + 1 => y :: insertAt x m l
termination_by structural l => l

/-- The permutation of a list that a number names: every number gives one, and every one has a number. -/
def arrange {α : Type} : Nat → List α → List α
  | _, [] => []
  | k, x :: l => insertAt x (k % (l.length + 1)) (arrange (k / (l.length + 1)) l)

/-! ### Pushes to the pin port -/

/-- `Configure(i, dir, pu, lat)` for each pin listed (R214), in an order left open (R137, R232). -/
def pushPins (pins : List (Fin 16)) (s : State) : State :=
  (s.emit ((arrange (Config.pushOrder s.draws) pins).map fun i => .configure i s.pins[i])).drawn

/-- The pins of a bank whose record differs from the one before the write (R136). -/
def changedPins (b : Bank) (old new : Vector Pin 16) : List (Fin 16) :=
  (bankPins b).filter fun i => old[i] != new[i]

/-- The register file with `f` applied to each pin of a bank at its lane. -/
def mapBank (b : Bank) (f : Fin 8 → Pin → Pin) (pins : Vector Pin 16) : Vector Pin 16 :=
  Vector.ofFn fun i => if bankOf i = b then f (laneOf i) pins[i] else pins[i]

/-- A register write: all eight pins of the bank at once (R56), then the pushes of those that changed (R136). -/
def writeBank (b : Bank) (f : Fin 8 → Pin → Pin) (s : State) : State :=
  pushPins (changedPins b s.pins (mapBank b f s.pins)) (s.setPins (mapBank b f s.pins))

/-! ### The fatal fault -/

/-- `raise Fatal(info)` (R203): the core is halted, the information is its final output, and the transaction ends there:
no later byte is applied or read, and a prepare returns nothing. Nothing else is written (R138, R151). -/
def raiseFatal (info : FatalInfo) (s : State) : State :=
  ((s.setHalted).setTxn .idle).emit [.fatal info]

/-! ### The pointer and the buffer -/

/-- `ptr <- Advance(ptr, Mode(bank_mode, sequential_mode))` (R124). -/
def advancePtr (s : State) : State := s.setPtr (advance s.ptr s.mode)

/-- `n` advances of the pointer (R166). -/
def advancePtrBy (n : Nat) (s : State) : State := s.setPtr (advances s.mode n s.ptr)

/-- A prepare ends: the read window is the buffer's length (R151), the buffer goes to the transport (R150), and the local
pointer is discarded (R34). -/
def finishPrepare (buf : List Byte) (s : State) : State :=
  ((s.setRwLen buf.length).setTxn .idle).emit [.returned buf]

/-- A buffer byte has been read: it joins the buffer and the local pointer advances (R150); after the last one the prepare
ends. Where no prepare is under way there is no buffer (log entry 11). -/
def deliver (v : Byte) (s : State) : State :=
  match s.txn with
  | .read lptr more buf =>
    match more with
    | 0 => finishPrepare (buf ++ [v]) s
    | m + 1 => s.setTxn (.read (advance lptr s.mode) m (buf ++ [v]))
  | .idle => s
  | .write _ _ => s

/-! ### Reset -/

/-- All pins, in ascending order. -/
def allPins : List (Fin 16) := List.finRange 16

/-- `RESET` (R230): flags, pointer, pins and read window to their reset values, then every pin is pushed without a diff, in
an order left open (R232). The filter state, `halted` and the output on record stay (R231). -/
def resetCore (s : State) : State :=
  pushPins allPins
    ((((s.setFlags false false).setPtr 0).setPins (Vector.replicate 16 Pin.initial)).setRwLen 0)

/-- The core as constructed, with the 16 pushes of its construction on record (R234, D12). `State.reset` is the same state
with nothing on record (log entry 2). -/
def State.constructed : State := resetCore State.reset

end Sys2Proof.Machine
end

