-- ==== Sys2Proof/Machine/ResetFilter.lean ====
section
/-! DEFINITION. The reset monitor (R240 to R246): its entry, its reaction to a change of the reset line, and its being
dropped. -/

namespace Sys2Proof.Machine

/-- The monitor is dropped, and a recorded low instant is lost (R245). -/
def dropMonitor (s : State) : State := (s.setRf .waitLow).setWatching false

/-- `RUN`, on entry at time `t` (R243): it starts in `WAIT_LOW`; with the line already low, `LEVEL` takes the line as having
gone low now and `EDGE` waits for a later change (R242). Which of the two is open at each such entry. -/
def enterMonitor (t : Nat) (s : State) : State :=
  match s.line with
  | .high => (s.setRf .waitLow).setWatching true
  | .low =>
    ((s.setRf (if Config.waitLowIsLevel s.draws then .waitHigh t else .waitLow)).setWatching true).drawn

/-- The line returns high at `t` after going low at `t0` (R243): a low of at least `T_RST_MIN` resets the core, a shorter one
is only reported (R244); then the filter waits for the next low. -/
def endOfLow (t0 t : Nat) (s : State) : State :=
  (if Config.tRstMin ≤ t - t0 then resetCore (s.diag (.resetAccepted (t - t0)))
   else s.diag (.resetShort (t - t0))).setRf .waitLow

/-- `RUN`, on a change of the reset line to a level at time `t` (R243). While the monitor is dropped nothing watches the
line (R219, R245). -/
def lineChange (level : Level) (t : Nat) (s : State) : State :=
  if s.watching then
    match s.rf, level with
    | .waitLow, .low => (s.setLine level).setRf (.waitHigh t)
    | .waitLow, .high => s.setLine level
    | .waitHigh _, .low => s.setLine level
    | .waitHigh t0, .high => endOfLow t0 t (s.setLine level)
  else s.setLine level

end Sys2Proof.Machine
end

