-- ==== Sys2Proof/Machine/EntryPoints.lean ====
section
/-! DEFINITION. The five entry points (R71). -/

namespace Sys2Proof.Machine

/-- `WRITE_TXN` (R120): the address byte becomes the pointer whatever its value, and the data bytes are under way: the next
steps apply them one by one, each as the register write its key selects. With no byte at all nothing happens (R121). -/
def startWrite (bytes : List Byte) (s : State) : State :=
  match bytes with
  | [] => s
  | a :: data => (s.setPtr a).setTxn (Txn.ofBytes data)

/-- `PREPARE` (R150): the local pointer starts as a copy of the pointer, and the next steps read the buffer bytes one by one,
each as the register read its key selects. An empty buffer is complete at once. -/
def startPrepare (len : Nat) (s : State) : State :=
  match len with
  | 0 => finishPrepare [] s
  | more + 1 => s.setTxn (.read s.ptr more [])

/-- `CONFIRM` (R166): excess over the read window is reported (R167), the pointer advances `min(n, rw_len)` times, and the
window is consumed (R168). -/
def confirmRead (n : Nat) (s : State) : State :=
  (advancePtrBy (min n s.rwLen) (if s.rwLen < n then s.diag (.confirmExcess n s.rwLen) else s)).setRwLen 0

/-- A step of `RUN` (R243). -/
def monitorStep (step : RunStep) (s : State) : State :=
  match step with
  | .entry time => enterMonitor time s
  | .change level time => lineChange level time s

/-- `WRITE_TXN` (R120, R121). -/
def execWriteTxn (bytes : List Byte) (s : State) : Result := running s (startWrite bytes s)

/-- `PREPARE` (R150, R151). -/
def execPrepare (len : Nat) (s : State) : Result := running s (startPrepare len s)

/-- `CONFIRM` (R166 to R168). -/
def execConfirm (n : Nat) (s : State) : Result := running s (confirmRead n s)

/-- `RESET` (R230). -/
def execReset (s : State) : Result := running s (resetCore s)

/-- `RUN` (R243). -/
def execRun (step : RunStep) (s : State) : Result := running s (monitorStep step s)

end Sys2Proof.Machine
end

