-- ==== Sys2Proof/Machine/ReadPath.lean ====
section
/-! DEFINITION. The register reads of the implemented types (R153 to R157), and the meaning of each read operation: the read
one buffer byte performs, the byte joining the buffer, then the advance of the local pointer (R150). -/

namespace Sys2Proof.Machine

/-- `RdIODIR(b)` (R153). -/
def iodirByte (b : Bank) (s : State) : Byte := byteOf fun k => (s.pins[pinOf b k]).dir.toBit

/-- `RdGPPU(b)` (R154). -/
def gppuByte (b : Bank) (s : State) : Byte := byteOf fun k => (s.pins[pinOf b k]).pu

/-- The output latches of a bank: an OLAT read under `OLAT_READ = LATCH` (R157). -/
def latchByte (b : Bank) (s : State) : Byte := byteOf fun k => (s.pins[pinOf b k]).lat

/-- `RdGPIO(b)` (R155): the latch of an Output pin, the line of an Input pin, sampled now. -/
def gpioByte (b : Bank) (s : State) : Byte :=
  byteOf fun k =>
    match (s.pins[pinOf b k]).dir with
    | .output => (s.pins[pinOf b k]).lat
    | .input => Config.lineLevel s.draws (pinOf b k)

/-- The Input pins of a bank: the pins a GPIO read samples (R155, R170). -/
def inputPins (b : Bank) (s : State) : List (Fin 16) :=
  (bankPins b).filter fun i => (s.pins[i]).dir == .input

/-- The samples of one GPIO read byte: `IsHigh` once for each Input pin of the bank and for no Output pin, in an open order
(R170). -/
def sampleLines (b : Bank) (s : State) : State :=
  (s.emit ((arrange (Config.sampleOrder s.draws) (inputPins b s)).map fun i =>
    .sampled i (Config.lineLevel s.draws i))).drawn

/-- A buffer byte from IODIR (R153). -/
def rdIodir (b : Bank) (s : State) : State := deliver (iodirByte b s) s

/-- A buffer byte from GPPU (R154). -/
def rdGppu (b : Bank) (s : State) : State := deliver (gppuByte b s) s

/-- A buffer byte from GPIO (R155). -/
def rdGpio (b : Bank) (s : State) : State := deliver (gpioByte b s) (sampleLines b s)

/-- A buffer byte from OLAT under a setting of `OLAT_READ` (R157). -/
def rdOlatAs (setting : Config.OlatRead) (b : Bank) (s : State) : State :=
  match setting with
  | .gpioAlias => rdGpio b s
  | .latch => deliver (latchByte b s) s

/-- A buffer byte from OLAT (R157). -/
def rdOlat (b : Bank) (s : State) : State := rdOlatAs Config.olatRead b s

/-- `RdInvalid(a)`: a diagnostic, and a byte of which nothing is known (R156). -/
def rdInvalid (a : Byte) (s : State) : State :=
  deliver (Config.invalidByte s.draws) ((s.diag (.invalidRead a)).drawn)

/-- `RD.IODIRA.b0` (R153). -/
def execRdIodirA_b0 (s : State) : Result := running s (rdIodir .A s)

/-- `RD.IODIRB.b0` (R153). -/
def execRdIodirB_b0 (s : State) : Result := running s (rdIodir .B s)

/-- `RD.GPPUA.b0` (R154). -/
def execRdGppuA_b0 (s : State) : Result := running s (rdGppu .A s)

/-- `RD.GPPUB.b0` (R154). -/
def execRdGppuB_b0 (s : State) : Result := running s (rdGppu .B s)

/-- `RD.GPIOA.b0` (R155). -/
def execRdGpioA_b0 (s : State) : Result := running s (rdGpio .A s)

/-- `RD.GPIOB.b0` (R155). -/
def execRdGpioB_b0 (s : State) : Result := running s (rdGpio .B s)

/-- `RD.OLATA.b0` (R157). -/
def execRdOlatA_b0 (s : State) : Result := running s (rdOlat .A s)

/-- `RD.OLATB.b0` (R157). -/
def execRdOlatB_b0 (s : State) : Result := running s (rdOlat .B s)

/-- `RD.IODIRA.b1` (R153). -/
def execRdIodirA_b1 (s : State) : Result := running s (rdIodir .A s)

/-- `RD.GPPUA.b1` (R154). -/
def execRdGppuA_b1 (s : State) : Result := running s (rdGppu .A s)

/-- `RD.GPIOA.b1` (R155). -/
def execRdGpioA_b1 (s : State) : Result := running s (rdGpio .A s)

/-- `RD.OLATA.b1` (R157). -/
def execRdOlatA_b1 (s : State) : Result := running s (rdOlat .A s)

/-- `RD.IODIRB.b1` (R153). -/
def execRdIodirB_b1 (s : State) : Result := running s (rdIodir .B s)

/-- `RD.GPPUB.b1` (R154). -/
def execRdGppuB_b1 (s : State) : Result := running s (rdGppu .B s)

/-- `RD.GPIOB.b1` (R155). -/
def execRdGpioB_b1 (s : State) : Result := running s (rdGpio .B s)

/-- `RD.OLATB.b1` (R157). -/
def execRdOlatB_b1 (s : State) : Result := running s (rdOlat .B s)

/-- `RD.INVALID.b0` (R156). -/
def execRdInvalid_b0 (a : Byte) (s : State) : Result := running s (rdInvalid a s)

/-- `RD.INVALID.b1` (R156). -/
def execRdInvalid_b1 (a : Byte) (s : State) : Result := running s (rdInvalid a s)

end Sys2Proof.Machine
end

