-- ==== Sys2Proof/Machine/ReadUnimplemented.lean ====
section
/-! DEFINITION. The register reads of the unimplemented types (R158 to R164): each takes the fatal fault (R202, R203); the
prepare returns nothing and the read window keeps its value (R151). -/

namespace Sys2Proof.Machine

/-- A read of an unimplemented register at address `a` (R158 to R164). -/
def rdUnimplemented (t : RegType) (b : Bank) (a : Byte) (s : State) : State :=
  raiseFatal ⟨.rd, t, b, a, none⟩ s

/-- `RD.IPOLA.b0` (R158). -/
def execRdIpolA_b0 (s : State) : Result := running s (rdUnimplemented .IPOL .A 0x2 s)

/-- `RD.IPOLB.b0` (R158). -/
def execRdIpolB_b0 (s : State) : Result := running s (rdUnimplemented .IPOL .B 0x3 s)

/-- `RD.GPINTENA.b0` (R159). -/
def execRdGpintenA_b0 (s : State) : Result := running s (rdUnimplemented .GPINTEN .A 0x4 s)

/-- `RD.GPINTENB.b0` (R159). -/
def execRdGpintenB_b0 (s : State) : Result := running s (rdUnimplemented .GPINTEN .B 0x5 s)

/-- `RD.DEFVALA.b0` (R160). -/
def execRdDefvalA_b0 (s : State) : Result := running s (rdUnimplemented .DEFVAL .A 0x6 s)

/-- `RD.DEFVALB.b0` (R160). -/
def execRdDefvalB_b0 (s : State) : Result := running s (rdUnimplemented .DEFVAL .B 0x7 s)

/-- `RD.INTCONA.b0` (R161). -/
def execRdIntconA_b0 (s : State) : Result := running s (rdUnimplemented .INTCON .A 0x8 s)

/-- `RD.INTCONB.b0` (R161). -/
def execRdIntconB_b0 (s : State) : Result := running s (rdUnimplemented .INTCON .B 0x9 s)

/-- `RD.IOCONA.b0` (R162). -/
def execRdIoconA_b0 (s : State) : Result := running s (rdUnimplemented .IOCON .A 0xa s)

/-- `RD.IOCONB.b0` (R162). -/
def execRdIoconB_b0 (s : State) : Result := running s (rdUnimplemented .IOCON .B 0xb s)

/-- `RD.INTFA.b0` (R163). -/
def execRdIntfA_b0 (s : State) : Result := running s (rdUnimplemented .INTF .A 0xe s)

/-- `RD.INTFB.b0` (R163). -/
def execRdIntfB_b0 (s : State) : Result := running s (rdUnimplemented .INTF .B 0xf s)

/-- `RD.INTCAPA.b0` (R164). -/
def execRdIntcapA_b0 (s : State) : Result := running s (rdUnimplemented .INTCAP .A 0x10 s)

/-- `RD.INTCAPB.b0` (R164). -/
def execRdIntcapB_b0 (s : State) : Result := running s (rdUnimplemented .INTCAP .B 0x11 s)

/-- `RD.IPOLA.b1` (R158). -/
def execRdIpolA_b1 (s : State) : Result := running s (rdUnimplemented .IPOL .A 0x1 s)

/-- `RD.GPINTENA.b1` (R159). -/
def execRdGpintenA_b1 (s : State) : Result := running s (rdUnimplemented .GPINTEN .A 0x2 s)

/-- `RD.DEFVALA.b1` (R160). -/
def execRdDefvalA_b1 (s : State) : Result := running s (rdUnimplemented .DEFVAL .A 0x3 s)

/-- `RD.INTCONA.b1` (R161). -/
def execRdIntconA_b1 (s : State) : Result := running s (rdUnimplemented .INTCON .A 0x4 s)

/-- `RD.IOCONA.b1` (R162). -/
def execRdIoconA_b1 (s : State) : Result := running s (rdUnimplemented .IOCON .A 0x5 s)

/-- `RD.INTFA.b1` (R163). -/
def execRdIntfA_b1 (s : State) : Result := running s (rdUnimplemented .INTF .A 0x7 s)

/-- `RD.INTCAPA.b1` (R164). -/
def execRdIntcapA_b1 (s : State) : Result := running s (rdUnimplemented .INTCAP .A 0x8 s)

/-- `RD.IPOLB.b1` (R158). -/
def execRdIpolB_b1 (s : State) : Result := running s (rdUnimplemented .IPOL .B 0xc s)

/-- `RD.GPINTENB.b1` (R159). -/
def execRdGpintenB_b1 (s : State) : Result := running s (rdUnimplemented .GPINTEN .B 0xd s)

/-- `RD.DEFVALB.b1` (R160). -/
def execRdDefvalB_b1 (s : State) : Result := running s (rdUnimplemented .DEFVAL .B 0xe s)

/-- `RD.INTCONB.b1` (R161). -/
def execRdIntconB_b1 (s : State) : Result := running s (rdUnimplemented .INTCON .B 0xf s)

/-- `RD.IOCONB.b1` (R162). -/
def execRdIoconB_b1 (s : State) : Result := running s (rdUnimplemented .IOCON .B 0x10 s)

/-- `RD.INTFB.b1` (R163). -/
def execRdIntfB_b1 (s : State) : Result := running s (rdUnimplemented .INTF .B 0x12 s)

/-- `RD.INTCAPB.b1` (R164). -/
def execRdIntcapB_b1 (s : State) : Result := running s (rdUnimplemented .INTCAP .B 0x13 s)

end Sys2Proof.Machine
end

