-- ==== Sys2Proof/Machine/WritePath.lean ====
section
/-! DEFINITION. The register writes of the implemented types (R125 to R128), and the meaning of each write operation: the
write one data byte performs, then the advance of the pointer (R124). -/

namespace Sys2Proof.Machine

/-- `WrIODIR(b, v)` (R125). -/
def wrIodir (b : Bank) (v : Byte) (s : State) : State :=
  writeBank b (fun k p => { p with dir := Dir.ofBit (lane v k) }) s

/-- `WrGPPU(b, v)` (R126). -/
def wrGppu (b : Bank) (v : Byte) (s : State) : State :=
  writeBank b (fun k p => { p with pu := lane v k }) s

/-- `WrGPIO(b, v)` (R127). -/
def wrGpio (b : Bank) (v : Byte) (s : State) : State :=
  writeBank b (fun k p => { p with lat := lane v k }) s

/-- `WrOLAT(b, v) = WrGPIO(b, v)` (R128). -/
def wrOlat (b : Bank) (v : Byte) (s : State) : State := wrGpio b v s

/-- `WrInvalid(a, v)`: a diagnostic and nothing else (R123). -/
def wrInvalid (a v : Byte) (s : State) : State := s.diag (.invalidWrite a v)

/-- `WR.IODIRA.b0` (R125). -/
def execWrIodirA_b0 (v : Byte) (s : State) : Result := running s (advancePtr (wrIodir .A v s))

/-- `WR.IODIRB.b0` (R125). -/
def execWrIodirB_b0 (v : Byte) (s : State) : Result := running s (advancePtr (wrIodir .B v s))

/-- `WR.GPPUA.b0` (R126). -/
def execWrGppuA_b0 (v : Byte) (s : State) : Result := running s (advancePtr (wrGppu .A v s))

/-- `WR.GPPUB.b0` (R126). -/
def execWrGppuB_b0 (v : Byte) (s : State) : Result := running s (advancePtr (wrGppu .B v s))

/-- `WR.GPIOA.b0` (R127). -/
def execWrGpioA_b0 (v : Byte) (s : State) : Result := running s (advancePtr (wrGpio .A v s))

/-- `WR.GPIOB.b0` (R127). -/
def execWrGpioB_b0 (v : Byte) (s : State) : Result := running s (advancePtr (wrGpio .B v s))

/-- `WR.OLATA.b0` (R128). -/
def execWrOlatA_b0 (v : Byte) (s : State) : Result := running s (advancePtr (wrOlat .A v s))

/-- `WR.OLATB.b0` (R128). -/
def execWrOlatB_b0 (v : Byte) (s : State) : Result := running s (advancePtr (wrOlat .B v s))

/-- `WR.IODIRA.b1` (R125). -/
def execWrIodirA_b1 (v : Byte) (s : State) : Result := running s (advancePtr (wrIodir .A v s))

/-- `WR.GPPUA.b1` (R126). -/
def execWrGppuA_b1 (v : Byte) (s : State) : Result := running s (advancePtr (wrGppu .A v s))

/-- `WR.GPIOA.b1` (R127). -/
def execWrGpioA_b1 (v : Byte) (s : State) : Result := running s (advancePtr (wrGpio .A v s))

/-- `WR.OLATA.b1` (R128). -/
def execWrOlatA_b1 (v : Byte) (s : State) : Result := running s (advancePtr (wrOlat .A v s))

/-- `WR.IODIRB.b1` (R125). -/
def execWrIodirB_b1 (v : Byte) (s : State) : Result := running s (advancePtr (wrIodir .B v s))

/-- `WR.GPPUB.b1` (R126). -/
def execWrGppuB_b1 (v : Byte) (s : State) : Result := running s (advancePtr (wrGppu .B v s))

/-- `WR.GPIOB.b1` (R127). -/
def execWrGpioB_b1 (v : Byte) (s : State) : Result := running s (advancePtr (wrGpio .B v s))

/-- `WR.OLATB.b1` (R128). -/
def execWrOlatB_b1 (v : Byte) (s : State) : Result := running s (advancePtr (wrOlat .B v s))

/-- `WR.INVALID.b0` (R123). -/
def execWrInvalid_b0 (a v : Byte) (s : State) : Result := running s (advancePtr (wrInvalid a v s))

/-- `WR.INVALID.b1` (R123). -/
def execWrInvalid_b1 (a v : Byte) (s : State) : Result := running s (advancePtr (wrInvalid a v s))

end Sys2Proof.Machine
end

