-- ==== Sys2Proof/Machine/WriteUnimplemented.lean ====
section
/-! DEFINITION. The register writes of the unimplemented types (R129 to R135): each takes the fatal fault (R202, R203), with
no push and no advance of the pointer (R138). -/

namespace Sys2Proof.Machine

/-- A write of an unimplemented register at address `a` (R129 to R135). -/
def wrUnimplemented (t : RegType) (b : Bank) (a v : Byte) (s : State) : State :=
  raiseFatal ⟨.wr, t, b, a, some v⟩ s

/-- `WR.IPOLA.b0` (R129). -/
def execWrIpolA_b0 (v : Byte) (s : State) : Result := running s (wrUnimplemented .IPOL .A 0x2 v s)

/-- `WR.IPOLB.b0` (R129). -/
def execWrIpolB_b0 (v : Byte) (s : State) : Result := running s (wrUnimplemented .IPOL .B 0x3 v s)

/-- `WR.GPINTENA.b0` (R130). -/
def execWrGpintenA_b0 (v : Byte) (s : State) : Result := running s (wrUnimplemented .GPINTEN .A 0x4 v s)

/-- `WR.GPINTENB.b0` (R130). -/
def execWrGpintenB_b0 (v : Byte) (s : State) : Result := running s (wrUnimplemented .GPINTEN .B 0x5 v s)

/-- `WR.DEFVALA.b0` (R131). -/
def execWrDefvalA_b0 (v : Byte) (s : State) : Result := running s (wrUnimplemented .DEFVAL .A 0x6 v s)

/-- `WR.DEFVALB.b0` (R131). -/
def execWrDefvalB_b0 (v : Byte) (s : State) : Result := running s (wrUnimplemented .DEFVAL .B 0x7 v s)

/-- `WR.INTCONA.b0` (R132). -/
def execWrIntconA_b0 (v : Byte) (s : State) : Result := running s (wrUnimplemented .INTCON .A 0x8 v s)

/-- `WR.INTCONB.b0` (R132). -/
def execWrIntconB_b0 (v : Byte) (s : State) : Result := running s (wrUnimplemented .INTCON .B 0x9 v s)

/-- `WR.IOCONA.b0` (R133). -/
def execWrIoconA_b0 (v : Byte) (s : State) : Result := running s (wrUnimplemented .IOCON .A 0xa v s)

/-- `WR.IOCONB.b0` (R133). -/
def execWrIoconB_b0 (v : Byte) (s : State) : Result := running s (wrUnimplemented .IOCON .B 0xb v s)

/-- `WR.INTFA.b0` (R134). -/
def execWrIntfA_b0 (v : Byte) (s : State) : Result := running s (wrUnimplemented .INTF .A 0xe v s)

/-- `WR.INTFB.b0` (R134). -/
def execWrIntfB_b0 (v : Byte) (s : State) : Result := running s (wrUnimplemented .INTF .B 0xf v s)

/-- `WR.INTCAPA.b0` (R135). -/
def execWrIntcapA_b0 (v : Byte) (s : State) : Result := running s (wrUnimplemented .INTCAP .A 0x10 v s)

/-- `WR.INTCAPB.b0` (R135). -/
def execWrIntcapB_b0 (v : Byte) (s : State) : Result := running s (wrUnimplemented .INTCAP .B 0x11 v s)

/-- `WR.IPOLA.b1` (R129). -/
def execWrIpolA_b1 (v : Byte) (s : State) : Result := running s (wrUnimplemented .IPOL .A 0x1 v s)

/-- `WR.GPINTENA.b1` (R130). -/
def execWrGpintenA_b1 (v : Byte) (s : State) : Result := running s (wrUnimplemented .GPINTEN .A 0x2 v s)

/-- `WR.DEFVALA.b1` (R131). -/
def execWrDefvalA_b1 (v : Byte) (s : State) : Result := running s (wrUnimplemented .DEFVAL .A 0x3 v s)

/-- `WR.INTCONA.b1` (R132). -/
def execWrIntconA_b1 (v : Byte) (s : State) : Result := running s (wrUnimplemented .INTCON .A 0x4 v s)

/-- `WR.IOCONA.b1` (R133). -/
def execWrIoconA_b1 (v : Byte) (s : State) : Result := running s (wrUnimplemented .IOCON .A 0x5 v s)

/-- `WR.INTFA.b1` (R134). -/
def execWrIntfA_b1 (v : Byte) (s : State) : Result := running s (wrUnimplemented .INTF .A 0x7 v s)

/-- `WR.INTCAPA.b1` (R135). -/
def execWrIntcapA_b1 (v : Byte) (s : State) : Result := running s (wrUnimplemented .INTCAP .A 0x8 v s)

/-- `WR.IPOLB.b1` (R129). -/
def execWrIpolB_b1 (v : Byte) (s : State) : Result := running s (wrUnimplemented .IPOL .B 0xc v s)

/-- `WR.GPINTENB.b1` (R130). -/
def execWrGpintenB_b1 (v : Byte) (s : State) : Result := running s (wrUnimplemented .GPINTEN .B 0xd v s)

/-- `WR.DEFVALB.b1` (R131). -/
def execWrDefvalB_b1 (v : Byte) (s : State) : Result := running s (wrUnimplemented .DEFVAL .B 0xe v s)

/-- `WR.INTCONB.b1` (R132). -/
def execWrIntconB_b1 (v : Byte) (s : State) : Result := running s (wrUnimplemented .INTCON .B 0xf v s)

/-- `WR.IOCONB.b1` (R133). -/
def execWrIoconB_b1 (v : Byte) (s : State) : Result := running s (wrUnimplemented .IOCON .B 0x10 v s)

/-- `WR.INTFB.b1` (R134). -/
def execWrIntfB_b1 (v : Byte) (s : State) : Result := running s (wrUnimplemented .INTF .B 0x12 v s)

/-- `WR.INTCAPB.b1` (R135). -/
def execWrIntcapB_b1 (v : Byte) (s : State) : Result := running s (wrUnimplemented .INTCAP .B 0x13 v s)

end Sys2Proof.Machine
end

