-- ==== Sys2Proof/Machine/Dispatch.lean ====
section
/-! DEFINITION. One arm per operation: its meaning. -/

namespace Sys2Proof.Machine

def exec (i : Instr) (s : State) : Host.Outcome State Fault Refusal :=
  match i with
  | .wrIodirA_b0 v => Sys2Proof.Machine.execWrIodirA_b0 v s
  | .wrIodirB_b0 v => Sys2Proof.Machine.execWrIodirB_b0 v s
  | .wrIpolA_b0 v => Sys2Proof.Machine.execWrIpolA_b0 v s
  | .wrIpolB_b0 v => Sys2Proof.Machine.execWrIpolB_b0 v s
  | .wrGpintenA_b0 v => Sys2Proof.Machine.execWrGpintenA_b0 v s
  | .wrGpintenB_b0 v => Sys2Proof.Machine.execWrGpintenB_b0 v s
  | .wrDefvalA_b0 v => Sys2Proof.Machine.execWrDefvalA_b0 v s
  | .wrDefvalB_b0 v => Sys2Proof.Machine.execWrDefvalB_b0 v s
  | .wrIntconA_b0 v => Sys2Proof.Machine.execWrIntconA_b0 v s
  | .wrIntconB_b0 v => Sys2Proof.Machine.execWrIntconB_b0 v s
  | .wrIoconA_b0 v => Sys2Proof.Machine.execWrIoconA_b0 v s
  | .wrIoconB_b0 v => Sys2Proof.Machine.execWrIoconB_b0 v s
  | .wrGppuA_b0 v => Sys2Proof.Machine.execWrGppuA_b0 v s
  | .wrGppuB_b0 v => Sys2Proof.Machine.execWrGppuB_b0 v s
  | .wrIntfA_b0 v => Sys2Proof.Machine.execWrIntfA_b0 v s
  | .wrIntfB_b0 v => Sys2Proof.Machine.execWrIntfB_b0 v s
  | .wrIntcapA_b0 v => Sys2Proof.Machine.execWrIntcapA_b0 v s
  | .wrIntcapB_b0 v => Sys2Proof.Machine.execWrIntcapB_b0 v s
  | .wrGpioA_b0 v => Sys2Proof.Machine.execWrGpioA_b0 v s
  | .wrGpioB_b0 v => Sys2Proof.Machine.execWrGpioB_b0 v s
  | .wrOlatA_b0 v => Sys2Proof.Machine.execWrOlatA_b0 v s
  | .wrOlatB_b0 v => Sys2Proof.Machine.execWrOlatB_b0 v s
  | .wrIodirA_b1 v => Sys2Proof.Machine.execWrIodirA_b1 v s
  | .wrIpolA_b1 v => Sys2Proof.Machine.execWrIpolA_b1 v s
  | .wrGpintenA_b1 v => Sys2Proof.Machine.execWrGpintenA_b1 v s
  | .wrDefvalA_b1 v => Sys2Proof.Machine.execWrDefvalA_b1 v s
  | .wrIntconA_b1 v => Sys2Proof.Machine.execWrIntconA_b1 v s
  | .wrIoconA_b1 v => Sys2Proof.Machine.execWrIoconA_b1 v s
  | .wrGppuA_b1 v => Sys2Proof.Machine.execWrGppuA_b1 v s
  | .wrIntfA_b1 v => Sys2Proof.Machine.execWrIntfA_b1 v s
  | .wrIntcapA_b1 v => Sys2Proof.Machine.execWrIntcapA_b1 v s
  | .wrGpioA_b1 v => Sys2Proof.Machine.execWrGpioA_b1 v s
  | .wrOlatA_b1 v => Sys2Proof.Machine.execWrOlatA_b1 v s
  | .wrIodirB_b1 v => Sys2Proof.Machine.execWrIodirB_b1 v s
  | .wrIpolB_b1 v => Sys2Proof.Machine.execWrIpolB_b1 v s
  | .wrGpintenB_b1 v => Sys2Proof.Machine.execWrGpintenB_b1 v s
  | .wrDefvalB_b1 v => Sys2Proof.Machine.execWrDefvalB_b1 v s
  | .wrIntconB_b1 v => Sys2Proof.Machine.execWrIntconB_b1 v s
  | .wrIoconB_b1 v => Sys2Proof.Machine.execWrIoconB_b1 v s
  | .wrGppuB_b1 v => Sys2Proof.Machine.execWrGppuB_b1 v s
  | .wrIntfB_b1 v => Sys2Proof.Machine.execWrIntfB_b1 v s
  | .wrIntcapB_b1 v => Sys2Proof.Machine.execWrIntcapB_b1 v s
  | .wrGpioB_b1 v => Sys2Proof.Machine.execWrGpioB_b1 v s
  | .wrOlatB_b1 v => Sys2Proof.Machine.execWrOlatB_b1 v s
  | .wrInvalid_b0 a v => Sys2Proof.Machine.execWrInvalid_b0 a v s
  | .wrInvalid_b1 a v => Sys2Proof.Machine.execWrInvalid_b1 a v s
  | .rdIodirA_b0 => Sys2Proof.Machine.execRdIodirA_b0 s
  | .rdIodirB_b0 => Sys2Proof.Machine.execRdIodirB_b0 s
  | .rdIpolA_b0 => Sys2Proof.Machine.execRdIpolA_b0 s
  | .rdIpolB_b0 => Sys2Proof.Machine.execRdIpolB_b0 s
  | .rdGpintenA_b0 => Sys2Proof.Machine.execRdGpintenA_b0 s
  | .rdGpintenB_b0 => Sys2Proof.Machine.execRdGpintenB_b0 s
  | .rdDefvalA_b0 => Sys2Proof.Machine.execRdDefvalA_b0 s
  | .rdDefvalB_b0 => Sys2Proof.Machine.execRdDefvalB_b0 s
  | .rdIntconA_b0 => Sys2Proof.Machine.execRdIntconA_b0 s
  | .rdIntconB_b0 => Sys2Proof.Machine.execRdIntconB_b0 s
  | .rdIoconA_b0 => Sys2Proof.Machine.execRdIoconA_b0 s
  | .rdIoconB_b0 => Sys2Proof.Machine.execRdIoconB_b0 s
  | .rdGppuA_b0 => Sys2Proof.Machine.execRdGppuA_b0 s
  | .rdGppuB_b0 => Sys2Proof.Machine.execRdGppuB_b0 s
  | .rdIntfA_b0 => Sys2Proof.Machine.execRdIntfA_b0 s
  | .rdIntfB_b0 => Sys2Proof.Machine.execRdIntfB_b0 s
  | .rdIntcapA_b0 => Sys2Proof.Machine.execRdIntcapA_b0 s
  | .rdIntcapB_b0 => Sys2Proof.Machine.execRdIntcapB_b0 s
  | .rdGpioA_b0 => Sys2Proof.Machine.execRdGpioA_b0 s
  | .rdGpioB_b0 => Sys2Proof.Machine.execRdGpioB_b0 s
  | .rdOlatA_b0 => Sys2Proof.Machine.execRdOlatA_b0 s
  | .rdOlatB_b0 => Sys2Proof.Machine.execRdOlatB_b0 s
  | .rdIodirA_b1 => Sys2Proof.Machine.execRdIodirA_b1 s
  | .rdIpolA_b1 => Sys2Proof.Machine.execRdIpolA_b1 s
  | .rdGpintenA_b1 => Sys2Proof.Machine.execRdGpintenA_b1 s
  | .rdDefvalA_b1 => Sys2Proof.Machine.execRdDefvalA_b1 s
  | .rdIntconA_b1 => Sys2Proof.Machine.execRdIntconA_b1 s
  | .rdIoconA_b1 => Sys2Proof.Machine.execRdIoconA_b1 s
  | .rdGppuA_b1 => Sys2Proof.Machine.execRdGppuA_b1 s
  | .rdIntfA_b1 => Sys2Proof.Machine.execRdIntfA_b1 s
  | .rdIntcapA_b1 => Sys2Proof.Machine.execRdIntcapA_b1 s
  | .rdGpioA_b1 => Sys2Proof.Machine.execRdGpioA_b1 s
  | .rdOlatA_b1 => Sys2Proof.Machine.execRdOlatA_b1 s
  | .rdIodirB_b1 => Sys2Proof.Machine.execRdIodirB_b1 s
  | .rdIpolB_b1 => Sys2Proof.Machine.execRdIpolB_b1 s
  | .rdGpintenB_b1 => Sys2Proof.Machine.execRdGpintenB_b1 s
  | .rdDefvalB_b1 => Sys2Proof.Machine.execRdDefvalB_b1 s
  | .rdIntconB_b1 => Sys2Proof.Machine.execRdIntconB_b1 s
  | .rdIoconB_b1 => Sys2Proof.Machine.execRdIoconB_b1 s
  | .rdGppuB_b1 => Sys2Proof.Machine.execRdGppuB_b1 s
  | .rdIntfB_b1 => Sys2Proof.Machine.execRdIntfB_b1 s
  | .rdIntcapB_b1 => Sys2Proof.Machine.execRdIntcapB_b1 s
  | .rdGpioB_b1 => Sys2Proof.Machine.execRdGpioB_b1 s
  | .rdOlatB_b1 => Sys2Proof.Machine.execRdOlatB_b1 s
  | .rdInvalid_b0 a => Sys2Proof.Machine.execRdInvalid_b0 a s
  | .rdInvalid_b1 a => Sys2Proof.Machine.execRdInvalid_b1 a s
  | .writeTxn bytes => Sys2Proof.Machine.execWriteTxn bytes s
  | .prepare len => Sys2Proof.Machine.execPrepare len s
  | .confirm n => Sys2Proof.Machine.execConfirm n s
  | .reset => Sys2Proof.Machine.execReset s
  | .run step => Sys2Proof.Machine.execRun step s

end Sys2Proof.Machine
end

