-- ==== Sys2Proof/Machine/OwningLoop.lean ====
section
/-! DEFINITION. The owning loop (R219) around the operations: what is taken next, and when the reset monitor is dropped and
entered again. -/

namespace Sys2Proof.Machine

/-- What the next step runs, and the state with it taken. A transaction under way goes on with its next byte, whose key is
formed from the direction, the flag and the pointer or local pointer (R74): no call is taken before it ends (R56). With no
transaction under way the owner's next call is taken, at a reading of the time source that is never below the last one
(R241). -/
def fetch (s : State) : Option (Fetched × State) :=
  match s.txn with
  | .write v rest => some (.access (accessKey .wr s.bankMode s.ptr) v, s.setTxn (Txn.ofBytes rest))
  | .read lptr _ _ => some (.access (accessKey .rd s.bankMode lptr) 0, s)
  | .idle =>
    match s.pending with
    | [] => none
    | c :: rest =>
      some (.call { c with time := max s.now c.time }, (s.setPending rest).setNow (max s.now c.time))

/-- A call that is part of a bus transaction: the bus listen has completed, so the monitor is dropped before the call runs
(R219, R245). -/
def ownerBefore (i : Instr) (s : State) : State :=
  match i.kind with
  | .writeTxn | .prepare | .confirm => dropMonitor s
  | .writeAccess | .readAccess | .reset | .run => s

/-- A write transaction is over with its last byte, a read transaction with its confirm: the loop is entered again, and with
it the monitor (R219). Between a prepare and its confirm nothing of the loop runs (R62, R219). A halted core has no further
step (R204). -/
def ownerAfter (i : Instr) (s : State) : State :=
  match i.kind with
  | .writeTxn | .writeAccess | .confirm =>
    if s.halted then s
    else if s.txn = .idle then enterMonitor s.now s else s
  | .prepare | .readAccess | .reset | .run => s

/-- The loop's part after an operation, on whatever the operation answered. -/
def finishStep (i : Instr) (r : Result) : Result :=
  match r with
  | .next s => .next (ownerAfter i s)
  | .fault f => .fault f
  | .refused f => .refused f

/-- `s` with the operation a row of the opcode table names as the one the next step runs. A call's header becomes the next
call, with no transaction under way. A key takes what forms it: the flag, the pointer or local pointer, and a transaction
with one byte left (log entry 4). -/
def placeTableWord (s : State) (nbits w : Nat) : State :=
  match fetchedOfTableWord s.now nbits w with
  | .call c => (s.setTxn .idle).setPending (c :: s.pending)
  | .access key data =>
    match keyDir key with
    | .wr => ((s.setFlags (keyBankMode key) s.sequentialMode).setPtr (keyAddr key)).setTxn (.write data [])
    | .rd => (s.setFlags (keyBankMode key) s.sequentialMode).setTxn (.read (keyAddr key) 0 [])

end Sys2Proof.Machine
end

