-- ==== Sys2Proof/Machine/Step.lean ====
section
/-! DEFINITION. One step of the machine: one operation, taken, decoded and run, with the owning loop's part around it. -/

namespace Sys2Proof.Machine

/-- A halted core has no step (R204). With nothing to take the core waits (R222). -/
def step (s : State) : Host.Outcome State Fault Refusal :=
  if s.halted then .fault .coreHalted
  else
    match fetch s with
    | none => .next s
    | some (f, taken) =>
      match decode f with
      | .error reason => .refused (.notACall reason)
      | .ok i => finishStep i (exec i (ownerBefore i taken))

/-- `s` with the operation of an opcode-table row placed where the next step takes its operation from. -/
def State.withFetchWord (s : State) (nbits w : Nat) : State := placeTableWord s nbits w

end Sys2Proof.Machine
end

