-- ==== Sys2Proof/Machine/Transactions.lean ====
section
/-! DEFINITION. Whole transactions as the spec's pseudocode writes them: one recursion over the bytes (R120, R122, R150,
R152). `step` does not use these: it takes a transaction's bytes one at a time, and statements say that the two agree. -/

namespace Sys2Proof.Machine

/-- `RegWrite(a, v)` (R122). -/
def regWrite (a v : Byte) (s : State) : State :=
  match decodeAddress a s.bankMode with
  | none => wrInvalid a v s
  | some (.IODIR, b) => wrIodir b v s
  | some (.GPPU, b) => wrGppu b v s
  | some (.GPIO, b) => wrGpio b v s
  | some (.OLAT, b) => wrOlat b v s
  | some (.IPOL, b) => wrUnimplemented .IPOL b a v s
  | some (.GPINTEN, b) => wrUnimplemented .GPINTEN b a v s
  | some (.DEFVAL, b) => wrUnimplemented .DEFVAL b a v s
  | some (.INTCON, b) => wrUnimplemented .INTCON b a v s
  | some (.IOCON, b) => wrUnimplemented .IOCON b a v s
  | some (.INTF, b) => wrUnimplemented .INTF b a v s
  | some (.INTCAP, b) => wrUnimplemented .INTCAP b a v s

/-- The data phase of `WRITE_TXN` (R120): a byte that raises the fatal fault ends it (R138). -/
def writeData : List Byte → State → State
  | [], s => s
  | v :: rest, s =>
    if (regWrite s.ptr v s).halted then regWrite s.ptr v s
    else writeData rest (advancePtr (regWrite s.ptr v s))

/-- `WRITE_TXN(bytes)` as a whole (R120, R121). -/
def writeTransaction (bytes : List Byte) (s : State) : State :=
  match bytes with
  | [] => s
  | a :: data => writeData data (s.setPtr a)

/-- `RegRead(a)` (R152): the byte read and the state after; no byte where the read raises the fatal fault. -/
def regRead (a : Byte) (s : State) : Option Byte × State :=
  match decodeAddress a s.bankMode with
  | none => (some (Config.invalidByte s.draws), (s.diag (.invalidRead a)).drawn)
  | some (.IODIR, b) => (some (iodirByte b s), s)
  | some (.GPPU, b) => (some (gppuByte b s), s)
  | some (.GPIO, b) => (some (gpioByte b s), sampleLines b s)
  | some (.OLAT, b) =>
    match Config.olatRead with
    | .gpioAlias => (some (gpioByte b s), sampleLines b s)
    | .latch => (some (latchByte b s), s)
  | some (.IPOL, b) => (none, rdUnimplemented .IPOL b a s)
  | some (.GPINTEN, b) => (none, rdUnimplemented .GPINTEN b a s)
  | some (.DEFVAL, b) => (none, rdUnimplemented .DEFVAL b a s)
  | some (.INTCON, b) => (none, rdUnimplemented .INTCON b a s)
  | some (.IOCON, b) => (none, rdUnimplemented .IOCON b a s)
  | some (.INTF, b) => (none, rdUnimplemented .INTF b a s)
  | some (.INTCAP, b) => (none, rdUnimplemented .INTCAP b a s)

/-- The buffer bytes of `PREPARE` still to read, from a local pointer (R150). -/
def readData : Nat → Byte → List Byte → State → State
  | 0, _, buf, s => finishPrepare buf s
  | n + 1, lptr, buf, s =>
    match regRead lptr s with
    | (some v, s') => readData n (advance lptr s'.mode) (buf ++ [v]) s'
    | (none, s') => s'

/-- `PREPARE(L)` as a whole (R150, R151). -/
def prepareTransaction (len : Nat) (s : State) : State := readData len s.ptr [] s

end Sys2Proof.Machine
end

