-- ==== Sys2Proof/Safety.lean ====
section
/-! DEFINITION. Runs, what counts as a safe run, and the invariant of the machine. -/

namespace Sys2Proof.Machine

/-- `n` steps of the machine, ending at the first fault or refusal. -/
def runSteps : Nat → State → Result
  | 0, s => .next s
  | n + 1, s =>
    match step s with
    | .next t => runSteps n t
    | .fault f => .fault f
    | .refused r => .refused r

/-- The core has not taken the fatal fault: the premise of every claim about a run (R204). -/
def State.Live (s : State) : Prop := s.halted = false

/-- No confirm on record has asked for more than was prepared: the premise of a claim about a transport that keeps its
contract (R250; D7). -/
def State.Paired (s : State) : Prop := ∀ n prepared, Output.diag (.confirmExcess n prepared) ∉ s.trace

/-- A run of `n` steps that ends in a live state. -/
def SafeRun (n : Nat) (s : State) : Prop := ∃ t, runSteps n s = .next t ∧ t.Live

/-- What holds between the fields of the state. -/
structure State.Inv (s : State) : Prop where
  /-- A dropped monitor has no recorded low instant (R245). -/
  dropped : s.watching = false → s.rf = .waitLow
  /-- A recorded low instant is not in the future, so an elapsed time is never negative (R241). -/
  lowInPast : ∀ t0, s.rf = .waitHigh t0 → t0 ≤ s.now
  /-- The monitor does not run while a transaction does (R219). -/
  exclusive : s.txn ≠ .idle → s.watching = false
  /-- The fatal fault ends the operation that raised it (R203). -/
  haltedIdle : s.halted = true → s.txn = .idle
  /-- The core is halted exactly when its last output is the fatal fault, the final diagnostic (R203, R204). -/
  finalDiagnostic : s.halted = true ↔ ∃ info, s.trace.getLast? = some (.fatal info)
  /-- A live core has no fatal fault on record at all (R204). -/
  noEarlierFault : s.halted = false → ∀ info, Output.fatal info ∉ s.trace

end Sys2Proof.Machine
end

