-- ==== Sys2Proof/Certificates/Slice0/Obligations.lean ====
section
/-! DEFINITION. The statements about the core. -/

namespace Sys2Proof.Claims

open Sys2Proof.Machine

/-- From `s` to `t` exactly the pins whose record changed are pushed, each once, with all three of its new fields, in some
order (R136, R137). -/
def PushesChanges (s t : State) : Prop :=
  ∃ order : List (Fin 16), order.Perm ((List.finRange 16).filter fun i => decide (t.pins[i] ≠ s.pins[i])) ∧
    t.trace = s.trace ++ order.map fun i => Output.configure i t.pins[i]

/-- From `s` to `t` every pin is pushed once with the record `p`, in some order (R232). -/
def PushesAll (p : Pin) (s t : State) : Prop :=
  ∃ order : List (Fin 16), order.Perm (List.finRange 16) ∧
    t.trace = s.trace ++ order.map fun i => Output.configure i p

/-- `t` is `u` with `v` joined to the buffer of the prepare under way: before the last byte the local pointer advances and
nothing else changes; with the last one the window is the buffer's length (R151, the spec's decision D7) and the buffer is
returned (R150). The prepare under way is the model's field `txn` (log entry 13). -/
def Delivers (v : Byte) (u t : State) : Prop :=
  (∀ lptr more buf, u.txn = .read lptr (more + 1) buf →
    t = { u with txn := .read (advance lptr u.mode) more (buf ++ [v]) }) ∧
  (∀ lptr buf, u.txn = .read lptr 0 buf →
    t = { u with txn := .idle, rwLen := buf.length + 1, trace := u.trace ++ [.returned (buf ++ [v])] })

/-- `t` has the reset values of R37 in the seven fields `reset()` writes. -/
def ResetValues (t : State) : Prop :=
  (∀ i : Fin 16, t.pins[i] = ⟨.input, false, false⟩) ∧ t.ptr = 0 ∧ t.bankMode = false ∧ t.sequentialMode = false ∧ t.rwLen = 0

/-- A register type's writes stand at these addresses: banks A and B with `bank_mode = 0`, then with `bank_mode = 1` (R75). -/
def WrittenAt (ty : RegType) (a0 b0 a1 b1 : Byte) : Prop :=
  ∀ v, decodeWrite a0 false v = Instr.wr false ty .A v ∧ decodeWrite b0 false v = Instr.wr false ty .B v ∧
    decodeWrite a1 true v = Instr.wr true ty .A v ∧ decodeWrite b1 true v = Instr.wr true ty .B v

/-- A register type's reads stand at these addresses: banks A and B with `bank_mode = 0`, then with `bank_mode = 1` (R75). -/
def ReadAt (ty : RegType) (a0 b0 a1 b1 : Byte) : Prop :=
  decodeRead a0 false = Instr.rd false ty .A ∧ decodeRead b0 false = Instr.rd false ty .B ∧
    decodeRead a1 true = Instr.rd true ty .A ∧ decodeRead b1 true = Instr.rd true ty .B

/-- `t` has the core's registers of `s`: pins, pointer, flags and read window. -/
def SameRegisters (s t : State) : Prop :=
  t.pins = s.pins ∧ t.ptr = s.ptr ∧ t.bankMode = s.bankMode ∧ t.sequentialMode = s.sequentialMode ∧ t.rwLen = s.rwLen

end Sys2Proof.Claims

open Sys2Proof Sys2Proof.Machine Sys2Proof.Claims

/-! ### Encoding and decode -/

/-- Decode of encode gives every well-formed operation back, every operand at every value. -/
def Obligations.DecodeOfEncodeIsIdentity : Prop := ∀ i : Instr, i.wellFormed = true → decode (encode i) = .ok i

/-- Encode of decode gives every key back, with the data byte of a write. -/
def Obligations.EncodeOfDecodedKeyIsKey : Prop :=
  ∀ (key : Key) (v : Byte),
    (key.getLsbD 9 = false → encode (decodeKey key v) = .access key v) ∧
    (key.getLsbD 9 = true → encode (decodeKey key v) = .access key 0)

/-- Every key lies in exactly one row of the opcode table, and it is a row of the operation it decodes to (R74, R78). -/
def Obligations.EveryKeyIsInOneTableRow : Prop :=
  ∀ (key : Key) (v : Byte),
    (accessRows.filter fun r => r.covers key).map AccessRow.mnemonic = [(decodeKey key v).mnemonic]

/-- Whatever is decoded is well-formed. -/
def Obligations.DecodedOperationsAreWellFormed : Prop := ∀ (f : Fetched) (i : Instr), decode f = .ok i → i.wellFormed = true

/-- Words written out from R74, R75 and R71. -/
def Obligations.WrittenOutWordsDecode : Prop :=
  (∀ v, decodeKey 0b0000010010#10 v = .wrGpioA_b0 v) ∧ (∀ v, decodeKey 0b0100010010#10 v = .wrIntfB_b1 v) ∧
  (∀ v, decodeKey 0b1000010010#10 v = .rdGpioA_b0) ∧ (∀ v, decodeKey 0b1100001011#10 v = .rdIodirB_b1) ∧
  (∀ v, decodeKey 0b0000010110#10 v = .wrInvalid_b0 0x16 v) ∧ (∀ v, decodeKey 0b1111111111#10 v = .rdInvalid_b1 0xFF) ∧
  decode (.call ⟨7, 0, [0x12, 0x05]⟩) = .ok (.writeTxn [0x12, 0x05]) ∧ decode (.call ⟨7, 1, [4]⟩) = .ok (.prepare 4) ∧
  decode (.call ⟨7, 2, [1]⟩) = .ok (.confirm 1) ∧ decode (.call ⟨7, 3, []⟩) = .ok .reset ∧
  decode (.call ⟨7, 4, [0]⟩) = .ok (.run (.change .low 7)) ∧ decode (.call ⟨7, 4, [2]⟩) = .ok (.run (.entry 7))

/-- Only five entry codes name an entry point (R71). -/
def Obligations.OtherEntryCodesAreRefused : Prop :=
  ∀ c : Call, 5 ≤ c.header.toNat % 8 → decode (.call c) = .error (.noSuchEntryPoint (c.header.toNat % 8))

/-- R102, with R77 for the addresses that name no register: where each address of either layout leads. -/
def Obligations.AddressesLeadToRegisters : Prop :=
  (∀ (a : Byte) (t : RegType) (b : Bank), decodeAddress a true = some (t, b) ↔ a.toNat = t.ordinal + 11 * b.num) ∧
  (∀ (a : Byte) (t : RegType) (b : Bank), decodeAddress a false = some (t, b) ↔ a.toNat = 2 * t.ordinal + b.num) ∧
  (∀ (a : Byte) (bankMode : Bool), decodeAddress a bankMode = none ↔ 22 ≤ a.toNat)

/-- R103: each register has exactly one address per layout. -/
def Obligations.EachRegisterHasOneAddress : Prop :=
  ∀ (bankMode : Bool) (t : RegType) (b : Bank), ∃ a : Byte, decodeAddress a bankMode = some (t, b) ∧
    ∀ a' : Byte, decodeAddress a' bankMode = some (t, b) → a' = a

/-- R79: the flag changes the decoding of addresses 1 to 20, and of no other. -/
def Obligations.BankModeChangesAddresses1To20 : Prop :=
  ∀ a : Byte, decodeAddress a false ≠ decodeAddress a true ↔ 1 ≤ a.toNat ∧ a.toNat ≤ 20

/-! ### Modes and advance -/

/-- R104. -/
def Obligations.ModeOfFlags : Prop :=
  modeOf false false = .toggle ∧ modeOf true false = .fixed ∧ ∀ bankMode, modeOf bankMode true = .cycle

/-- What one advance gives, from every address. In Cycle mode an address above 21 follows the spec's decision D4 (log entry
18). -/
def Obligations.OneAdvance : Prop :=
  ∀ a : Byte, advance a .fixed = a ∧
    (advance a .toggle).toNat = (if a.toNat % 2 = 0 then a.toNat + 1 else a.toNat - 1) ∧
    (advance a .cycle).toNat = (a.toNat + 1) % 22

/-- What `n` advances give. -/
def Obligations.ManyAdvances : Prop :=
  ∀ (n : Nat) (a : Byte), advances .fixed n a = a ∧
    advances .toggle n a = (if n % 2 = 0 then a else a ^^^ 1) ∧
    (a.toNat ≤ 21 → (advances .cycle n a).toNat = (a.toNat + n) % 22)

/-! ### Register writes -/

/-- R125, with the pushes and the advance: an IODIR write. -/
def Obligations.IodirWriteSetsDirections : Prop :=
  WrittenAt .IODIR 0x00 0x01 0x00 0x0B ∧
  ∀ (s : State) (bankMode : Bool) (b : Bank) (v : Byte), s.halted = false →
    ∃ t, exec (Instr.wr bankMode .IODIR b v) s = .next t ∧
      (∀ i : Fin 16, t.pins[i] = if bankOf i = b
        then { s.pins[i] with dir := if v.getLsbD (i.val % 8) then .input else .output } else s.pins[i]) ∧
      PushesChanges s t ∧
      t = { s with pins := t.pins, ptr := advance s.ptr s.mode, draws := t.draws, trace := t.trace }

/-- R126, with the pushes and the advance: a GPPU write. -/
def Obligations.GppuWriteSetsPullUps : Prop :=
  WrittenAt .GPPU 0x0C 0x0D 0x06 0x11 ∧
  ∀ (s : State) (bankMode : Bool) (b : Bank) (v : Byte), s.halted = false →
    ∃ t, exec (Instr.wr bankMode .GPPU b v) s = .next t ∧
      (∀ i : Fin 16, t.pins[i] = if bankOf i = b then { s.pins[i] with pu := v.getLsbD (i.val % 8) } else s.pins[i]) ∧
      PushesChanges s t ∧
      t = { s with pins := t.pins, ptr := advance s.ptr s.mode, draws := t.draws, trace := t.trace }

/-- R127 and R128, with the pushes and the advance: a GPIO or OLAT write. -/
def Obligations.GpioAndOlatWritesSetLatches : Prop :=
  WrittenAt .GPIO 0x12 0x13 0x09 0x14 ∧ WrittenAt .OLAT 0x14 0x15 0x0A 0x15 ∧
  ∀ (s : State) (bankMode : Bool) (b : Bank) (v : Byte) (ty : RegType), ty = .GPIO ∨ ty = .OLAT → s.halted = false →
    ∃ t, exec (Instr.wr bankMode ty b v) s = .next t ∧
      (∀ i : Fin 16, t.pins[i] = if bankOf i = b then { s.pins[i] with lat := v.getLsbD (i.val % 8) } else s.pins[i]) ∧
      PushesChanges s t ∧
      t = { s with pins := t.pins, ptr := advance s.ptr s.mode, draws := t.draws, trace := t.trace }

/-- R128: an OLAT write is a GPIO write, exactly. -/
def Obligations.OlatWriteIsGpioWrite : Prop :=
  ∀ (s : State) (bankMode : Bool) (b : Bank) (v : Byte),
    exec (Instr.wr bankMode .OLAT b v) s = exec (Instr.wr bankMode .GPIO b v) s

/-- R123, with the advance: a write at an address that decodes to no register. -/
def Obligations.InvalidWriteOnlyReports : Prop :=
  (∀ a v : Byte, 22 ≤ a.toNat → decodeWrite a false v = .wrInvalid_b0 a v ∧ decodeWrite a true v = .wrInvalid_b1 a v) ∧
  ∀ (s : State) (a v : Byte), s.halted = false →
    exec (.wrInvalid_b0 a v) s =
      .next { s with ptr := advance s.ptr s.mode, trace := s.trace ++ [.diag (.invalidWrite a v)] } ∧
    exec (.wrInvalid_b1 a v) s =
      .next { s with ptr := advance s.ptr s.mode, trace := s.trace ++ [.diag (.invalidWrite a v)] }

/-- What R129 to R135 give, in the model's form (derived): a write of an unimplemented register takes the fatal fault, as a
next state that ends the transaction (log entries 1 and 13; the spec's decisions D9 and D10). -/
def Obligations.UnimplementedWriteIsFatal : Prop :=
  WrittenAt .IPOL 0x02 0x03 0x01 0x0C ∧ WrittenAt .GPINTEN 0x04 0x05 0x02 0x0D ∧ WrittenAt .DEFVAL 0x06 0x07 0x03 0x0E ∧
  WrittenAt .INTCON 0x08 0x09 0x04 0x0F ∧ WrittenAt .IOCON 0x0A 0x0B 0x05 0x10 ∧ WrittenAt .INTF 0x0E 0x0F 0x07 0x12 ∧
  WrittenAt .INTCAP 0x10 0x11 0x08 0x13 ∧
  ∀ (s : State) (bankMode : Bool) (ty : RegType) (b : Bank) (v : Byte), ty.implemented = false → s.halted = false →
    exec (Instr.wr bankMode ty b v) s = .next { s with
      halted := true, txn := .idle,
      trace := s.trace ++ [.fatal ⟨.wr, ty, b, registerAddress bankMode ty b, some v⟩] }

/-- R136 for every implemented register: exactly the pins whose record changed are pushed, each once with all three fields,
and no pin of the other bank changes. -/
def Obligations.ImplementedWritesPushChangedPins : Prop :=
  ∀ (s : State) (bankMode : Bool) (ty : RegType) (b : Bank) (v : Byte), ty.implemented = true → s.halted = false →
    ∃ t, exec (Instr.wr bankMode ty b v) s = .next t ∧ PushesChanges s t ∧
      ∀ i : Fin 16, bankOf i ≠ b → t.pins[i] = s.pins[i]

/-- R124: after a data byte, implemented or invalid, the pointer has advanced once in the mode of the flags; after one that
takes the fatal fault it has not. -/
def Obligations.PointerAdvancesUnlessFatal : Prop :=
  ∀ (s t : State) (i : Instr), i.kind = .writeAccess → exec i s = .next t →
    t.ptr = if t.halted then s.ptr else advance s.ptr (modeOf s.bankMode s.sequentialMode)

/-- R55: writing the value a register already holds changes nothing and pushes nothing. -/
def Obligations.RepeatedWriteChangesNothing : Prop :=
  ∀ (s t : State) (bankMode : Bool) (ty : RegType) (b : Bank) (v : Byte), ty.implemented = true →
    exec (Instr.wr bankMode ty b v) s = .next t →
    ∃ u, exec (Instr.wr bankMode ty b v) t = .next u ∧ u.pins = t.pins ∧ u.trace = t.trace

/-! ### Register reads -/

/-- A buffer byte from IODIR, as R153 gives it. `Delivers` adds the window, the spec's decision D7, and the model's
field `txn` (log entry 13). -/
def Obligations.IodirReadGivesDirections : Prop :=
  ReadAt .IODIR 0x00 0x01 0x00 0x0B ∧
  ∀ (s : State) (bankMode : Bool) (b : Bank), s.halted = false →
    ∃ v t, exec (Instr.rd bankMode .IODIR b) s = .next t ∧ Delivers v s t ∧
      ∀ k : Fin 8, v.getLsbD k.val = decide ((s.pins[pinOf b k]).dir = .input)

/-- A buffer byte from GPPU, as R154 gives it. `Delivers` adds the window, the spec's decision D7, and the model's
field `txn` (log entry 13). -/
def Obligations.GppuReadGivesPullUps : Prop :=
  ReadAt .GPPU 0x0C 0x0D 0x06 0x11 ∧
  ∀ (s : State) (bankMode : Bool) (b : Bank), s.halted = false →
    ∃ v t, exec (Instr.rd bankMode .GPPU b) s = .next t ∧ Delivers v s t ∧
      ∀ k : Fin 8, v.getLsbD k.val = (s.pins[pinOf b k]).pu

/-- A buffer byte from GPIO, as R155 gives it: `level` is what the samples answer, and nothing is known of it. With a prepare
under way the output shows each Input pin of the bank sampled once and no other pin, in an open order (the spec's decision
D21, log entry 7); the window `Delivers` adds is the spec's decision D7, the field `txn` is the model's (log entry 13). -/
def Obligations.GpioReadGivesLatchesAndLines : Prop :=
  ReadAt .GPIO 0x12 0x13 0x09 0x14 ∧
  ∀ (s : State) (bankMode : Bool) (b : Bank), s.halted = false →
    ∃ (v : Byte) (t : State) (level : Fin 16 → Bool) (order : List (Fin 16)),
      exec (Instr.rd bankMode .GPIO b) s = .next t ∧
      order.Perm ((List.finRange 16).filter fun i => decide (bankOf i = b ∧ (s.pins[i]).dir = .input)) ∧
      Delivers v { s with draws := t.draws, trace := s.trace ++ order.map fun i => Output.sampled i (level i) } t ∧
      ∀ k : Fin 8, v.getLsbD k.val =
        if (s.pins[pinOf b k]).dir = .output then (s.pins[pinOf b k]).lat else level (pinOf b k)

/-- An OLAT read is a GPIO read under the spec's setting of `OLAT_READ`, its decision D5 (log entry 10); under the other it
gives the latches. `Delivers` adds the window (D7) and the model's field `txn` (log entry 13). -/
def Obligations.OlatReadFollowsItsSetting : Prop :=
  ReadAt .OLAT 0x14 0x15 0x0A 0x15 ∧
  (∀ (s : State) (bankMode : Bool) (b : Bank),
    exec (Instr.rd bankMode .OLAT b) s = exec (Instr.rd bankMode .GPIO b) s) ∧
  (∀ (s : State) (b : Bank), ∃ v, Delivers v s (rdOlatAs .latch b s) ∧
    ∀ k : Fin 8, v.getLsbD k.val = (s.pins[pinOf b k]).lat)

/-- A buffer byte at an address that decodes to no register: a diagnostic, and some byte, of which nothing is known (the
spec's decision D6, log entry 6). `Delivers` adds the window (D7) and the model's field `txn` (log entry 13). -/
def Obligations.InvalidReadReportsAndGivesSomeByte : Prop :=
  (∀ a : Byte, 22 ≤ a.toNat → decodeRead a false = .rdInvalid_b0 a ∧ decodeRead a true = .rdInvalid_b1 a) ∧
  ∀ (s : State) (a : Byte), s.halted = false →
    (∃ v t, exec (.rdInvalid_b0 a) s = .next t ∧
      Delivers v { s with draws := t.draws, trace := s.trace ++ [.diag (.invalidRead a)] } t) ∧
    (∃ v t, exec (.rdInvalid_b1 a) s = .next t ∧
      Delivers v { s with draws := t.draws, trace := s.trace ++ [.diag (.invalidRead a)] } t)

/-- What R158 to R164 give, in the model's form (derived): a read of an unimplemented register takes the fatal fault, as a
next state that ends the transaction (log entries 1 and 13; the spec's decisions D9 and D10). -/
def Obligations.UnimplementedReadIsFatal : Prop :=
  ReadAt .IPOL 0x02 0x03 0x01 0x0C ∧ ReadAt .GPINTEN 0x04 0x05 0x02 0x0D ∧ ReadAt .DEFVAL 0x06 0x07 0x03 0x0E ∧
  ReadAt .INTCON 0x08 0x09 0x04 0x0F ∧ ReadAt .IOCON 0x0A 0x0B 0x05 0x10 ∧ ReadAt .INTF 0x0E 0x0F 0x07 0x12 ∧
  ReadAt .INTCAP 0x10 0x11 0x08 0x13 ∧
  ∀ (s : State) (bankMode : Bool) (ty : RegType) (b : Bank), ty.implemented = false → s.halted = false →
    exec (Instr.rd bankMode ty b) s = .next { s with
      halted := true, txn := .idle,
      trace := s.trace ++ [.fatal ⟨.rd, ty, b, registerAddress bankMode ty b, none⟩] }

/-- A buffer byte's read writes no register: not a pin, not the pointer, not a flag, nothing of the owning loop. The read
window is written only by the last byte of a prepare, unless that byte takes the fatal fault: that it becomes the buffer's
length is R151, the spec's decision D7; that the last byte's read writes it is the model's form of the prepare (log entry
13), and the fault as a next state is log entry 1. -/
def Obligations.ReadsWriteNoRegister : Prop :=
  ∀ (s t : State) (i : Instr), i.kind = .readAccess → exec i s = .next t →
    t.pins = s.pins ∧ t.ptr = s.ptr ∧ t.bankMode = s.bankMode ∧ t.sequentialMode = s.sequentialMode ∧ t.rf = s.rf ∧
    t.watching = s.watching ∧ t.line = s.line ∧ t.now = s.now ∧ t.pending = s.pending ∧
    (t.rwLen = s.rwLen ∨ ∃ lptr buf, s.txn = .read lptr 0 buf ∧ t.rwLen = buf.length + 1)

/-- What was written is what is read: IODIR and GPPU whole, GPIO and OLAT on Output pins whatever the lines (R153, R154,
R155). The written register's bytes are taken from the state the write leaves. -/
def Obligations.WrittenBytesAreReadBack : Prop :=
  ∀ (s t : State) (bankMode : Bool) (b : Bank) (v : Byte),
    (exec (Instr.wr bankMode .IODIR b v) s = .next t → iodirByte b t = v) ∧
    (exec (Instr.wr bankMode .GPPU b v) s = .next t → gppuByte b t = v) ∧
    (∀ ty, ty = .GPIO ∨ ty = .OLAT → exec (Instr.wr bankMode ty b v) s = .next t →
      ∀ k : Fin 8, (t.pins[pinOf b k]).dir = .output → (gpioByte b t).getLsbD k.val = v.getLsbD k.val)

/-- The latch of an Input pin does not reach a GPIO read, and neither does any pull-up (from R155). That equal draw counters
sample equal line levels is the model's choice (log entries 5 and 19): the premise stands for lines that answer alike. -/
def Obligations.GpioReadIgnoresLatchesOfInputs : Prop :=
  ∀ (s t : State) (b : Bank), s.draws = t.draws →
    (∀ i : Fin 16, (s.pins[i]).dir = (t.pins[i]).dir) →
    (∀ i : Fin 16, (s.pins[i]).dir = .output → (s.pins[i]).lat = (t.pins[i]).lat) →
    gpioByte b s = gpioByte b t

/-! ### Entry points -/

/-- R120 and R121: a write transaction's call. The address byte becomes the pointer, the data bytes are under
way in `txn` (log entry 13). -/
def Obligations.WriteCallSetsPointer : Prop :=
  ∀ s : State, s.halted = false →
    exec (.writeTxn []) s = .next s ∧
    (∀ a, exec (.writeTxn [a]) s = .next { s with ptr := a, txn := .idle }) ∧
    (∀ a v rest, exec (.writeTxn (a :: v :: rest)) s = .next { s with ptr := a, txn := .write v rest })

/-- R120: the steps a write transaction takes do what its pseudocode does as a whole, the first at the call and one for each
data byte, and then the loop is entered again unless the core has halted (R219; log entries 13 and 14). -/
def Obligations.WriteTransactionRunsAsPseudocode : Prop :=
  ∀ (s : State) (c : Call) (rest : List Call) (bytes : List Byte) (t : State),
    s.halted = false → s.txn = .idle → s.pending = c :: rest →
    decode (.call { c with time := max s.now c.time }) = .ok (.writeTxn bytes) →
    t = writeTransaction bytes (dropMonitor { s with pending := rest, now := max s.now c.time }) →
    ∃ n, n ≤ bytes.length + 1 ∧
      runSteps n s = .next (if t.halted then t else enterMonitor t.now t)

/-- R150: a prepare's call; the buffer bytes are under way in `txn` (log entry 13), and the window is the spec's
decision D7. -/
def Obligations.PrepareCallStartsAtPointer : Prop :=
  ∀ s : State, s.halted = false →
    exec (.prepare 0) s = .next { s with txn := .idle, rwLen := 0, trace := s.trace ++ [.returned []] } ∧
    (∀ more, exec (.prepare (more + 1)) s = .next { s with txn := .read s.ptr more [] })

/-- R150: the steps a prepare takes do what its pseudocode does as a whole, the first at the call and one for each buffer
byte; the monitor stays dropped (R219; log entries 13 and 14). The window is the spec's decision D7. -/
def Obligations.PrepareRunsAsPseudocode : Prop :=
  ∀ (s : State) (c : Call) (rest : List Call) (len : Nat),
    s.halted = false → s.txn = .idle → s.pending = c :: rest →
    decode (.call { c with time := max s.now c.time }) = .ok (.prepare len) →
    ∃ n, n ≤ len + 1 ∧
      runSteps n s =
        .next (prepareTransaction len (dropMonitor { s with pending := rest, now := max s.now c.time }))

/-- R165 and R151: a prepare writes neither pins nor pointer nor flags; the window becomes its length if it completes, and
is as before if it takes the fatal fault. -/
def Obligations.PrepareWritesOnlyTheWindow : Prop :=
  ∀ (s : State) (len : Nat), s.halted = false →
    (prepareTransaction len s).pins = s.pins ∧ (prepareTransaction len s).ptr = s.ptr ∧
    (prepareTransaction len s).bankMode = s.bankMode ∧ (prepareTransaction len s).sequentialMode = s.sequentialMode ∧
    (prepareTransaction len s).rwLen = (if (prepareTransaction len s).halted then s.rwLen else len)

/-- R166, R167 and R168: a confirm; bounding it by the window is the spec's decision D7. -/
def Obligations.ConfirmAdvancesWithinWindow : Prop :=
  ∀ (s : State) (n : Nat), s.halted = false →
    (n ≤ s.rwLen → exec (.confirm n) s = .next { s with ptr := advances s.mode n s.ptr, rwLen := 0 }) ∧
    (s.rwLen < n → exec (.confirm n) s = .next { s with
      ptr := advances s.mode s.rwLen s.ptr, rwLen := 0,
      trace := s.trace ++ [.diag (.confirmExcess n s.rwLen)] })

/-- R169: after a prepare that completes, a confirm within its length moves the pointer as far as the local pointer had
moved after that many bytes; the prepare returned as many bytes as it was asked for. That the window is the prepared length
(R151) and is left 0 (R168) is the spec's decision D7. -/
def Obligations.ConfirmRetracesThePrepare : Prop :=
  ∀ (s : State) (len n : Nat), s.halted = false → (prepareTransaction len s).halted = false → n ≤ len →
    exec (.confirm n) (prepareTransaction len s) =
      .next { prepareTransaction len s with ptr := advances s.mode n s.ptr, rwLen := 0 } ∧
    ∃ buf, buf.length = len ∧ (prepareTransaction len s).trace.getLast? = some (.returned buf)

/-- R230, R231 and R232: a reset; emptying the window is the spec's decision D7, the open order of the pushes D11 (log entry
7). -/
def Obligations.ResetRestoresDefaultsAndPushesAll : Prop :=
  ∀ s : State, s.halted = false →
    ∃ t, exec .reset s = .next t ∧ ResetValues t ∧ PushesAll ⟨.input, false, false⟩ s t ∧
      t = { s with pins := t.pins, ptr := 0, bankMode := false, sequentialMode := false, rwLen := 0,
                   draws := t.draws, trace := t.trace }

/-- R37: the values after a reset; `rw_len` and `halted` are the spec's decisions D7 and D9, `txn` is the model's field (log
entry 13). -/
def Obligations.ResetStateHasSpecValues : Prop :=
  ResetValues State.reset ∧ State.reset.rf = .waitLow ∧ State.reset.halted = false ∧ State.reset.txn = .idle

/-- R234: the core as constructed is in the reset state, with the 16 pushes of its construction: the spec's decision D12
(log entry 2). -/
def Obligations.ConstructionIsOneReset : Prop :=
  ResetValues State.constructed ∧ PushesAll ⟨.input, false, false⟩ State.reset State.constructed ∧
    State.constructed.rf = .waitLow ∧ State.constructed.halted = false

/-! ### The reset monitor -/

/-- R243 on entry, with R242: line high, or line low under either setting (log entry 9). `watching` is the model's
field (log entry 14). -/
def Obligations.MonitorEntryStartsWaiting : Prop :=
  ∀ (s : State) (time : Nat), s.halted = false →
    (s.line = .high → exec (.run (.entry time)) s = .next { s with rf := .waitLow, watching := true }) ∧
    (s.line = .low → ∃ t, exec (.run (.entry time)) s = .next t ∧ (t.rf = .waitLow ∨ t.rf = .waitHigh time) ∧
      t = { s with rf := t.rf, watching := true, draws := t.draws })

/-- R243 and R244 on a change of the line while the monitor runs. The last clause's state is the reset of R230 after the
accepted pulse is reported; `rf` waits for the next low. The window is the spec's
decision D7, the open order D11; `T_RST_MIN` is log entry 8, `watching` log entry 14. -/
def Obligations.MonitorFollowsTheLine : Prop :=
  ∀ (s : State) (time t0 : Nat), s.halted = false → s.watching = true →
    (s.rf = .waitLow →
      exec (.run (.change .low time)) s = .next { s with line := .low, rf := .waitHigh time } ∧
      exec (.run (.change .high time)) s = .next { s with line := .high }) ∧
    (s.rf = .waitHigh t0 →
      exec (.run (.change .low time)) s = .next { s with line := .low } ∧
      (time - t0 < Config.tRstMin → exec (.run (.change .high time)) s = .next { s with
        line := .high, rf := .waitLow, trace := s.trace ++ [.diag (.resetShort (time - t0))] }) ∧
      (Config.tRstMin ≤ time - t0 → ∃ t, exec (.run (.change .high time)) s = .next t ∧ ResetValues t ∧
        PushesAll ⟨.input, false, false⟩ { s with trace := s.trace ++ [.diag (.resetAccepted (time - t0))] } t ∧
        t = { s with pins := t.pins, ptr := 0, bankMode := false, sequentialMode := false, rwLen := 0,
                     line := .high, rf := .waitLow, draws := t.draws, trace := t.trace }))

/-- A change of the line while the monitor is dropped is not seen (R219, R245; log entry 14). -/
def Obligations.DroppedMonitorSeesNothing : Prop :=
  ∀ (s : State) (level : Level) (time : Nat), s.halted = false → s.watching = false →
    exec (.run (.change level time)) s = .next { s with line := level }

/-- A low pulse as two calls with nothing between them, seen by two steps: long enough, it leaves the reset values; shorter,
it leaves every register as it was (R243, R244; log entries 8, 13, 14 and 15; the window is the spec's decision D7). -/
def Obligations.LowPulseResetsIfLongEnough : Prop :=
  ∀ (s : State) (low high : Nat), s.halted = false → s.txn = .idle → s.watching = true → s.rf = .waitLow →
    s.now ≤ low → low ≤ high → s.pending = [⟨low, 4, [0]⟩, ⟨high, 4, [1]⟩] →
    ∃ t, runSteps 2 s = .next t ∧ t.rf = .waitLow ∧ t.halted = false ∧
      (Config.tRstMin ≤ high - low → ResetValues t) ∧
      (high - low < Config.tRstMin → SameRegisters s t ∧ t.trace = s.trace ++ [.diag (.resetShort (high - low))])

/-! ### The machine -/

/-- R204, the spec's decision D9: once halted, no operation has a step (log entry 1). -/
def Obligations.HaltedCoreHasNoStep : Prop :=
  ∀ s : State, s.halted = true → step s = .fault .coreHalted ∧ ∀ i : Instr, exec i s = .fault .coreHalted

/-- While the core is live every operation with every operand has a next state (R204, R211). The fatal fault is one (log entry
1); a read outside a prepare and an operation the state would not select have one too (log entries 11 and 20). -/
def Obligations.LiveCoreRunsEveryOperation : Prop :=
  ∀ (s : State) (i : Instr), s.halted = false → ∃ t, exec i s = .next t

/-- A step runs the operation it decodes: the next byte of the transaction under way at the key the flag and the pointer
form (R74), or the next call, the monitor dropped before a call of a bus transaction and entered after its end (R219; log
entries 13 to 16). -/
def Obligations.StepRunsTheDecodedOperation : Prop :=
  ∀ s : State, s.halted = false →
    (∀ v rest, s.txn = .write v rest →
      step s = finishStep (decodeWrite s.ptr s.bankMode v)
        (exec (decodeWrite s.ptr s.bankMode v) { s with txn := Txn.ofBytes rest })) ∧
    (∀ lptr more buf, s.txn = .read lptr more buf →
      step s = exec (decodeRead lptr s.bankMode) s) ∧
    (∀ c rest i, s.txn = .idle → s.pending = c :: rest → decode (.call { c with time := max s.now c.time }) = .ok i →
      step s = finishStep i (exec i (ownerBefore i { s with pending := rest, now := max s.now c.time }))) ∧
    (s.txn = .idle → s.pending = [] → step s = .next s)

/-- R138 with R204: a data byte at an unimplemented register stops the core for good, leaving pins, pointer, flags and window
as they were, and no later byte is applied. -/
def Obligations.FatalDataByteStopsTheCore : Prop :=
  ∀ (s : State) (v : Byte) (rest : List Byte) (ty : RegType) (b : Bank),
    s.halted = false → s.txn = .write v rest → decodeAddress s.ptr s.bankMode = some (ty, b) → ty.implemented = false →
    step s = .next { s with
      halted := true, txn := .idle, trace := s.trace ++ [.fatal ⟨.wr, ty, b, s.ptr, some v⟩] } ∧
    step { s with halted := true, txn := .idle, trace := s.trace ++ [.fatal ⟨.wr, ty, b, s.ptr, some v⟩] } =
      .fault .coreHalted

/-- The reset state meets the invariant. -/
def Obligations.ResetMeetsInvariant : Prop := State.reset.Inv

/-- Every step keeps the invariant. -/
def Obligations.StepKeepsInvariant : Prop := ∀ s t : State, s.Inv → step s = .next t → t.Inv

/-- R26: no operation but a reset writes a mode flag, and a reset leaves both at 0. -/
def Obligations.OnlyResetWritesFlags : Prop :=
  (∀ (s t : State) (i : Instr), exec i s = .next t → i ≠ .reset → (∀ st, i ≠ .run st) →
    t.bankMode = s.bankMode ∧ t.sequentialMode = s.sequentialMode) ∧
  (∀ s t : State, step s = .next t →
    (t.bankMode = s.bankMode ∧ t.sequentialMode = s.sequentialMode) ∨ (t.bankMode = false ∧ t.sequentialMode = false))

/-- R26: from cleared flags the mode is Toggle for as long as the core runs. -/
def Obligations.ModeStaysToggleAfterReset : Prop :=
  ∀ (n : Nat) (s t : State), s.bankMode = false → s.sequentialMode = false → runSteps n s = .next t →
    t.bankMode = false ∧ t.sequentialMode = false ∧ t.mode = .toggle

/-- Reads, confirms and calls that only start a transaction change no pin (R55, R165). -/
def Obligations.OnlyWritesAndResetsChangePins : Prop :=
  ∀ (s t : State) (i : Instr), exec i s = .next t → i.kind ≠ .writeAccess → i.kind ≠ .reset → i.kind ≠ .run →
    t.pins = s.pins

/-- Output on record is never erased (R206, R231). -/
def Obligations.OutputIsOnlyAppended : Prop :=
  ∀ s t : State, step s = .next t → ∃ outs, t.trace = s.trace ++ outs

/-- R56: while a transaction is under way no call is taken, and the reset monitor does nothing (log entry 13). -/
def Obligations.TransactionIsNotInterrupted : Prop :=
  ∀ s t : State, s.txn ≠ .idle → step s = .next t →
    t.pending = s.pending ∧ t.now = s.now ∧ t.line = s.line ∧ (t.txn ≠ .idle → t.rf = s.rf ∧ t.watching = s.watching)

/-- R245: a bus transaction drops the monitor, and with it a recorded low instant; while the transaction lasts, and between
a prepare and its confirm, it stays dropped (log entry 14). -/
def Obligations.BusTransactionDropsTheMonitor : Prop :=
  ∀ (s t : State) (c : Call) (rest : List Call) (i : Instr),
    s.halted = false → s.txn = .idle → s.pending = c :: rest →
    decode (.call { c with time := max s.now c.time }) = .ok i → step s = .next t →
    ((∃ a v data, i = .writeTxn (a :: v :: data)) ∨ (∃ len, i = .prepare len) → t.rf = .waitLow ∧ t.watching = false) ∧
    ((∃ n, i = .confirm n) ∨ i = .writeTxn [] ∨ (∃ a, i = .writeTxn [a]) →
      t.watching = true ∧ (t.rf = .waitLow ∨ (s.line = .low ∧ t.rf = .waitHigh t.now)))

/-- Neither the time source nor the draw counter runs backwards (R241, R170; log entries 15 and 19). -/
def Obligations.ClockAndDrawsNeverGoBack : Prop :=
  ∀ s t : State, step s = .next t → s.now ≤ t.now ∧ s.draws ≤ t.draws
end

