-- ==== Sys2Proof/Laws/Decode.lean ====
section
/-! SUPPORT. The parts of a decode key, and the two directions between registers and addresses. -/

namespace Sys2Proof

/-- The parts a key is made of are the parts it is taken into (R74). -/
theorem accessKey_parts (bankMode : Bool) (a : Byte) :
    (keyDir (accessKey .wr bankMode a) = .wr ∧ keyAddr (accessKey .wr bankMode a) = a ∧
      keyBankMode (accessKey .wr bankMode a) = bankMode) ∧
    (keyDir (accessKey .rd bankMode a) = .rd ∧ keyAddr (accessKey .rd bankMode a) = a ∧
      keyBankMode (accessKey .rd bankMode a) = bankMode) := by
  revert bankMode a; decide

/-- A key is made of its own parts (R74). -/
theorem accessKey_of_parts : ∀ key : Key,
    (key.getLsbD 9 = false → accessKey .wr (keyBankMode key) (keyAddr key) = key) ∧
    (key.getLsbD 9 = true → accessKey .rd (keyBankMode key) (keyAddr key) = key) := by decide

/-- The key a data byte forms decodes to the write its address selects. -/
theorem decode_writeKey (bankMode : Bool) (a v : Byte) :
    decode (.access (accessKey .wr bankMode a) v) = .ok (decodeWrite a bankMode v) := by
  simp [decode, decodeKey, (accessKey_parts bankMode a).1]

/-- The key a buffer byte forms decodes to the read its address selects. -/
theorem decode_readKey (bankMode : Bool) (a v : Byte) :
    decode (.access (accessKey .rd bankMode a) v) = .ok (decodeRead a bankMode) := by
  simp [decode, decodeKey, (accessKey_parts bankMode a).2]

/-- An address from 22 on decodes to nothing (R77). -/
theorem decodeAddress_invalid (a : Byte) (bankMode : Bool) (h : invalidAddress a = true) :
    decodeAddress a bankMode = none := by
  revert a bankMode; decide

/-- An address that decodes to a register is that register's address in the layout (R102). -/
theorem registerAddress_of_decode {a : Byte} {bankMode : Bool} {t : RegType} {b : Bank}
    (h : decodeAddress a bankMode = some (t, b)) : registerAddress bankMode t b = a := by
  have key : ∀ (a : Byte) (bankMode : Bool),
      ((decodeAddress a bankMode).all fun r => registerAddress bankMode r.1 r.2 == a) = true := by decide
  simpa [h] using key a bankMode

end Sys2Proof
end

