-- ==== Sys2Proof/Laws/State.lean ====
section
/-! SUPPORT. What each single-field update does to each field of the state. -/

namespace Sys2Proof.Machine

variable (s : State)

@[simp] theorem setPins_pins (x : Vector Pin 16) : (State.setPins x s).pins = x := rfl
@[simp] theorem setPins_ptr (x : Vector Pin 16) : (State.setPins x s).ptr = s.ptr := rfl
@[simp] theorem setPins_bankMode (x : Vector Pin 16) : (State.setPins x s).bankMode = s.bankMode := rfl
@[simp] theorem setPins_sequentialMode (x : Vector Pin 16) : (State.setPins x s).sequentialMode = s.sequentialMode := rfl
@[simp] theorem setPins_rwLen (x : Vector Pin 16) : (State.setPins x s).rwLen = s.rwLen := rfl
@[simp] theorem setPins_rf (x : Vector Pin 16) : (State.setPins x s).rf = s.rf := rfl
@[simp] theorem setPins_halted (x : Vector Pin 16) : (State.setPins x s).halted = s.halted := rfl
@[simp] theorem setPins_txn (x : Vector Pin 16) : (State.setPins x s).txn = s.txn := rfl
@[simp] theorem setPins_watching (x : Vector Pin 16) : (State.setPins x s).watching = s.watching := rfl
@[simp] theorem setPins_line (x : Vector Pin 16) : (State.setPins x s).line = s.line := rfl
@[simp] theorem setPins_now (x : Vector Pin 16) : (State.setPins x s).now = s.now := rfl
@[simp] theorem setPins_pending (x : Vector Pin 16) : (State.setPins x s).pending = s.pending := rfl
@[simp] theorem setPins_draws (x : Vector Pin 16) : (State.setPins x s).draws = s.draws := rfl
@[simp] theorem setPins_trace (x : Vector Pin 16) : (State.setPins x s).trace = s.trace := rfl
@[simp] theorem setPins_mode (x : Vector Pin 16) : (State.setPins x s).mode = s.mode := rfl

@[simp] theorem setPtr_pins (x : Byte) : (State.setPtr x s).pins = s.pins := rfl
@[simp] theorem setPtr_ptr (x : Byte) : (State.setPtr x s).ptr = x := rfl
@[simp] theorem setPtr_bankMode (x : Byte) : (State.setPtr x s).bankMode = s.bankMode := rfl
@[simp] theorem setPtr_sequentialMode (x : Byte) : (State.setPtr x s).sequentialMode = s.sequentialMode := rfl
@[simp] theorem setPtr_rwLen (x : Byte) : (State.setPtr x s).rwLen = s.rwLen := rfl
@[simp] theorem setPtr_rf (x : Byte) : (State.setPtr x s).rf = s.rf := rfl
@[simp] theorem setPtr_halted (x : Byte) : (State.setPtr x s).halted = s.halted := rfl
@[simp] theorem setPtr_txn (x : Byte) : (State.setPtr x s).txn = s.txn := rfl
@[simp] theorem setPtr_watching (x : Byte) : (State.setPtr x s).watching = s.watching := rfl
@[simp] theorem setPtr_line (x : Byte) : (State.setPtr x s).line = s.line := rfl
@[simp] theorem setPtr_now (x : Byte) : (State.setPtr x s).now = s.now := rfl
@[simp] theorem setPtr_pending (x : Byte) : (State.setPtr x s).pending = s.pending := rfl
@[simp] theorem setPtr_draws (x : Byte) : (State.setPtr x s).draws = s.draws := rfl
@[simp] theorem setPtr_trace (x : Byte) : (State.setPtr x s).trace = s.trace := rfl
@[simp] theorem setPtr_mode (x : Byte) : (State.setPtr x s).mode = s.mode := rfl

@[simp] theorem setFlags_pins (x y : Bool) : (State.setFlags x y s).pins = s.pins := rfl
@[simp] theorem setFlags_ptr (x y : Bool) : (State.setFlags x y s).ptr = s.ptr := rfl
@[simp] theorem setFlags_bankMode (x y : Bool) : (State.setFlags x y s).bankMode = x := rfl
@[simp] theorem setFlags_sequentialMode (x y : Bool) : (State.setFlags x y s).sequentialMode = y := rfl
@[simp] theorem setFlags_rwLen (x y : Bool) : (State.setFlags x y s).rwLen = s.rwLen := rfl
@[simp] theorem setFlags_rf (x y : Bool) : (State.setFlags x y s).rf = s.rf := rfl
@[simp] theorem setFlags_halted (x y : Bool) : (State.setFlags x y s).halted = s.halted := rfl
@[simp] theorem setFlags_txn (x y : Bool) : (State.setFlags x y s).txn = s.txn := rfl
@[simp] theorem setFlags_watching (x y : Bool) : (State.setFlags x y s).watching = s.watching := rfl
@[simp] theorem setFlags_line (x y : Bool) : (State.setFlags x y s).line = s.line := rfl
@[simp] theorem setFlags_now (x y : Bool) : (State.setFlags x y s).now = s.now := rfl
@[simp] theorem setFlags_pending (x y : Bool) : (State.setFlags x y s).pending = s.pending := rfl
@[simp] theorem setFlags_draws (x y : Bool) : (State.setFlags x y s).draws = s.draws := rfl
@[simp] theorem setFlags_trace (x y : Bool) : (State.setFlags x y s).trace = s.trace := rfl

@[simp] theorem setRwLen_pins (x : Nat) : (State.setRwLen x s).pins = s.pins := rfl
@[simp] theorem setRwLen_ptr (x : Nat) : (State.setRwLen x s).ptr = s.ptr := rfl
@[simp] theorem setRwLen_bankMode (x : Nat) : (State.setRwLen x s).bankMode = s.bankMode := rfl
@[simp] theorem setRwLen_sequentialMode (x : Nat) : (State.setRwLen x s).sequentialMode = s.sequentialMode := rfl
@[simp] theorem setRwLen_rwLen (x : Nat) : (State.setRwLen x s).rwLen = x := rfl
@[simp] theorem setRwLen_rf (x : Nat) : (State.setRwLen x s).rf = s.rf := rfl
@[simp] theorem setRwLen_halted (x : Nat) : (State.setRwLen x s).halted = s.halted := rfl
@[simp] theorem setRwLen_txn (x : Nat) : (State.setRwLen x s).txn = s.txn := rfl
@[simp] theorem setRwLen_watching (x : Nat) : (State.setRwLen x s).watching = s.watching := rfl
@[simp] theorem setRwLen_line (x : Nat) : (State.setRwLen x s).line = s.line := rfl
@[simp] theorem setRwLen_now (x : Nat) : (State.setRwLen x s).now = s.now := rfl
@[simp] theorem setRwLen_pending (x : Nat) : (State.setRwLen x s).pending = s.pending := rfl
@[simp] theorem setRwLen_draws (x : Nat) : (State.setRwLen x s).draws = s.draws := rfl
@[simp] theorem setRwLen_trace (x : Nat) : (State.setRwLen x s).trace = s.trace := rfl
@[simp] theorem setRwLen_mode (x : Nat) : (State.setRwLen x s).mode = s.mode := rfl

@[simp] theorem setRf_pins (x : FilterState) : (State.setRf x s).pins = s.pins := rfl
@[simp] theorem setRf_ptr (x : FilterState) : (State.setRf x s).ptr = s.ptr := rfl
@[simp] theorem setRf_bankMode (x : FilterState) : (State.setRf x s).bankMode = s.bankMode := rfl
@[simp] theorem setRf_sequentialMode (x : FilterState) : (State.setRf x s).sequentialMode = s.sequentialMode := rfl
@[simp] theorem setRf_rwLen (x : FilterState) : (State.setRf x s).rwLen = s.rwLen := rfl
@[simp] theorem setRf_rf (x : FilterState) : (State.setRf x s).rf = x := rfl
@[simp] theorem setRf_halted (x : FilterState) : (State.setRf x s).halted = s.halted := rfl
@[simp] theorem setRf_txn (x : FilterState) : (State.setRf x s).txn = s.txn := rfl
@[simp] theorem setRf_watching (x : FilterState) : (State.setRf x s).watching = s.watching := rfl
@[simp] theorem setRf_line (x : FilterState) : (State.setRf x s).line = s.line := rfl
@[simp] theorem setRf_now (x : FilterState) : (State.setRf x s).now = s.now := rfl
@[simp] theorem setRf_pending (x : FilterState) : (State.setRf x s).pending = s.pending := rfl
@[simp] theorem setRf_draws (x : FilterState) : (State.setRf x s).draws = s.draws := rfl
@[simp] theorem setRf_trace (x : FilterState) : (State.setRf x s).trace = s.trace := rfl
@[simp] theorem setRf_mode (x : FilterState) : (State.setRf x s).mode = s.mode := rfl

@[simp] theorem setHalted_pins : (State.setHalted s).pins = s.pins := rfl
@[simp] theorem setHalted_ptr : (State.setHalted s).ptr = s.ptr := rfl
@[simp] theorem setHalted_bankMode : (State.setHalted s).bankMode = s.bankMode := rfl
@[simp] theorem setHalted_sequentialMode : (State.setHalted s).sequentialMode = s.sequentialMode := rfl
@[simp] theorem setHalted_rwLen : (State.setHalted s).rwLen = s.rwLen := rfl
@[simp] theorem setHalted_rf : (State.setHalted s).rf = s.rf := rfl
@[simp] theorem setHalted_halted : (State.setHalted s).halted = true := rfl
@[simp] theorem setHalted_txn : (State.setHalted s).txn = s.txn := rfl
@[simp] theorem setHalted_watching : (State.setHalted s).watching = s.watching := rfl
@[simp] theorem setHalted_line : (State.setHalted s).line = s.line := rfl
@[simp] theorem setHalted_now : (State.setHalted s).now = s.now := rfl
@[simp] theorem setHalted_pending : (State.setHalted s).pending = s.pending := rfl
@[simp] theorem setHalted_draws : (State.setHalted s).draws = s.draws := rfl
@[simp] theorem setHalted_trace : (State.setHalted s).trace = s.trace := rfl
@[simp] theorem setHalted_mode : (State.setHalted s).mode = s.mode := rfl

@[simp] theorem setTxn_pins (x : Txn) : (State.setTxn x s).pins = s.pins := rfl
@[simp] theorem setTxn_ptr (x : Txn) : (State.setTxn x s).ptr = s.ptr := rfl
@[simp] theorem setTxn_bankMode (x : Txn) : (State.setTxn x s).bankMode = s.bankMode := rfl
@[simp] theorem setTxn_sequentialMode (x : Txn) : (State.setTxn x s).sequentialMode = s.sequentialMode := rfl
@[simp] theorem setTxn_rwLen (x : Txn) : (State.setTxn x s).rwLen = s.rwLen := rfl
@[simp] theorem setTxn_rf (x : Txn) : (State.setTxn x s).rf = s.rf := rfl
@[simp] theorem setTxn_halted (x : Txn) : (State.setTxn x s).halted = s.halted := rfl
@[simp] theorem setTxn_txn (x : Txn) : (State.setTxn x s).txn = x := rfl
@[simp] theorem setTxn_watching (x : Txn) : (State.setTxn x s).watching = s.watching := rfl
@[simp] theorem setTxn_line (x : Txn) : (State.setTxn x s).line = s.line := rfl
@[simp] theorem setTxn_now (x : Txn) : (State.setTxn x s).now = s.now := rfl
@[simp] theorem setTxn_pending (x : Txn) : (State.setTxn x s).pending = s.pending := rfl
@[simp] theorem setTxn_draws (x : Txn) : (State.setTxn x s).draws = s.draws := rfl
@[simp] theorem setTxn_trace (x : Txn) : (State.setTxn x s).trace = s.trace := rfl
@[simp] theorem setTxn_mode (x : Txn) : (State.setTxn x s).mode = s.mode := rfl

@[simp] theorem setWatching_pins (x : Bool) : (State.setWatching x s).pins = s.pins := rfl
@[simp] theorem setWatching_ptr (x : Bool) : (State.setWatching x s).ptr = s.ptr := rfl
@[simp] theorem setWatching_bankMode (x : Bool) : (State.setWatching x s).bankMode = s.bankMode := rfl
@[simp] theorem setWatching_sequentialMode (x : Bool) : (State.setWatching x s).sequentialMode = s.sequentialMode := rfl
@[simp] theorem setWatching_rwLen (x : Bool) : (State.setWatching x s).rwLen = s.rwLen := rfl
@[simp] theorem setWatching_rf (x : Bool) : (State.setWatching x s).rf = s.rf := rfl
@[simp] theorem setWatching_halted (x : Bool) : (State.setWatching x s).halted = s.halted := rfl
@[simp] theorem setWatching_txn (x : Bool) : (State.setWatching x s).txn = s.txn := rfl
@[simp] theorem setWatching_watching (x : Bool) : (State.setWatching x s).watching = x := rfl
@[simp] theorem setWatching_line (x : Bool) : (State.setWatching x s).line = s.line := rfl
@[simp] theorem setWatching_now (x : Bool) : (State.setWatching x s).now = s.now := rfl
@[simp] theorem setWatching_pending (x : Bool) : (State.setWatching x s).pending = s.pending := rfl
@[simp] theorem setWatching_draws (x : Bool) : (State.setWatching x s).draws = s.draws := rfl
@[simp] theorem setWatching_trace (x : Bool) : (State.setWatching x s).trace = s.trace := rfl
@[simp] theorem setWatching_mode (x : Bool) : (State.setWatching x s).mode = s.mode := rfl

@[simp] theorem setLine_pins (x : Level) : (State.setLine x s).pins = s.pins := rfl
@[simp] theorem setLine_ptr (x : Level) : (State.setLine x s).ptr = s.ptr := rfl
@[simp] theorem setLine_bankMode (x : Level) : (State.setLine x s).bankMode = s.bankMode := rfl
@[simp] theorem setLine_sequentialMode (x : Level) : (State.setLine x s).sequentialMode = s.sequentialMode := rfl
@[simp] theorem setLine_rwLen (x : Level) : (State.setLine x s).rwLen = s.rwLen := rfl
@[simp] theorem setLine_rf (x : Level) : (State.setLine x s).rf = s.rf := rfl
@[simp] theorem setLine_halted (x : Level) : (State.setLine x s).halted = s.halted := rfl
@[simp] theorem setLine_txn (x : Level) : (State.setLine x s).txn = s.txn := rfl
@[simp] theorem setLine_watching (x : Level) : (State.setLine x s).watching = s.watching := rfl
@[simp] theorem setLine_line (x : Level) : (State.setLine x s).line = x := rfl
@[simp] theorem setLine_now (x : Level) : (State.setLine x s).now = s.now := rfl
@[simp] theorem setLine_pending (x : Level) : (State.setLine x s).pending = s.pending := rfl
@[simp] theorem setLine_draws (x : Level) : (State.setLine x s).draws = s.draws := rfl
@[simp] theorem setLine_trace (x : Level) : (State.setLine x s).trace = s.trace := rfl
@[simp] theorem setLine_mode (x : Level) : (State.setLine x s).mode = s.mode := rfl

@[simp] theorem setNow_pins (x : Nat) : (State.setNow x s).pins = s.pins := rfl
@[simp] theorem setNow_ptr (x : Nat) : (State.setNow x s).ptr = s.ptr := rfl
@[simp] theorem setNow_bankMode (x : Nat) : (State.setNow x s).bankMode = s.bankMode := rfl
@[simp] theorem setNow_sequentialMode (x : Nat) : (State.setNow x s).sequentialMode = s.sequentialMode := rfl
@[simp] theorem setNow_rwLen (x : Nat) : (State.setNow x s).rwLen = s.rwLen := rfl
@[simp] theorem setNow_rf (x : Nat) : (State.setNow x s).rf = s.rf := rfl
@[simp] theorem setNow_halted (x : Nat) : (State.setNow x s).halted = s.halted := rfl
@[simp] theorem setNow_txn (x : Nat) : (State.setNow x s).txn = s.txn := rfl
@[simp] theorem setNow_watching (x : Nat) : (State.setNow x s).watching = s.watching := rfl
@[simp] theorem setNow_line (x : Nat) : (State.setNow x s).line = s.line := rfl
@[simp] theorem setNow_now (x : Nat) : (State.setNow x s).now = x := rfl
@[simp] theorem setNow_pending (x : Nat) : (State.setNow x s).pending = s.pending := rfl
@[simp] theorem setNow_draws (x : Nat) : (State.setNow x s).draws = s.draws := rfl
@[simp] theorem setNow_trace (x : Nat) : (State.setNow x s).trace = s.trace := rfl
@[simp] theorem setNow_mode (x : Nat) : (State.setNow x s).mode = s.mode := rfl

@[simp] theorem setPending_pins (x : List Call) : (State.setPending x s).pins = s.pins := rfl
@[simp] theorem setPending_ptr (x : List Call) : (State.setPending x s).ptr = s.ptr := rfl
@[simp] theorem setPending_bankMode (x : List Call) : (State.setPending x s).bankMode = s.bankMode := rfl
@[simp] theorem setPending_sequentialMode (x : List Call) : (State.setPending x s).sequentialMode = s.sequentialMode := rfl
@[simp] theorem setPending_rwLen (x : List Call) : (State.setPending x s).rwLen = s.rwLen := rfl
@[simp] theorem setPending_rf (x : List Call) : (State.setPending x s).rf = s.rf := rfl
@[simp] theorem setPending_halted (x : List Call) : (State.setPending x s).halted = s.halted := rfl
@[simp] theorem setPending_txn (x : List Call) : (State.setPending x s).txn = s.txn := rfl
@[simp] theorem setPending_watching (x : List Call) : (State.setPending x s).watching = s.watching := rfl
@[simp] theorem setPending_line (x : List Call) : (State.setPending x s).line = s.line := rfl
@[simp] theorem setPending_now (x : List Call) : (State.setPending x s).now = s.now := rfl
@[simp] theorem setPending_pending (x : List Call) : (State.setPending x s).pending = x := rfl
@[simp] theorem setPending_draws (x : List Call) : (State.setPending x s).draws = s.draws := rfl
@[simp] theorem setPending_trace (x : List Call) : (State.setPending x s).trace = s.trace := rfl
@[simp] theorem setPending_mode (x : List Call) : (State.setPending x s).mode = s.mode := rfl

@[simp] theorem drawn_pins : (State.drawn s).pins = s.pins := rfl
@[simp] theorem drawn_ptr : (State.drawn s).ptr = s.ptr := rfl
@[simp] theorem drawn_bankMode : (State.drawn s).bankMode = s.bankMode := rfl
@[simp] theorem drawn_sequentialMode : (State.drawn s).sequentialMode = s.sequentialMode := rfl
@[simp] theorem drawn_rwLen : (State.drawn s).rwLen = s.rwLen := rfl
@[simp] theorem drawn_rf : (State.drawn s).rf = s.rf := rfl
@[simp] theorem drawn_halted : (State.drawn s).halted = s.halted := rfl
@[simp] theorem drawn_txn : (State.drawn s).txn = s.txn := rfl
@[simp] theorem drawn_watching : (State.drawn s).watching = s.watching := rfl
@[simp] theorem drawn_line : (State.drawn s).line = s.line := rfl
@[simp] theorem drawn_now : (State.drawn s).now = s.now := rfl
@[simp] theorem drawn_pending : (State.drawn s).pending = s.pending := rfl
@[simp] theorem drawn_draws : (State.drawn s).draws = s.draws + 1 := rfl
@[simp] theorem drawn_trace : (State.drawn s).trace = s.trace := rfl
@[simp] theorem drawn_mode : (State.drawn s).mode = s.mode := rfl

@[simp] theorem emit_pins (x : List Output) : (State.emit x s).pins = s.pins := rfl
@[simp] theorem emit_ptr (x : List Output) : (State.emit x s).ptr = s.ptr := rfl
@[simp] theorem emit_bankMode (x : List Output) : (State.emit x s).bankMode = s.bankMode := rfl
@[simp] theorem emit_sequentialMode (x : List Output) : (State.emit x s).sequentialMode = s.sequentialMode := rfl
@[simp] theorem emit_rwLen (x : List Output) : (State.emit x s).rwLen = s.rwLen := rfl
@[simp] theorem emit_rf (x : List Output) : (State.emit x s).rf = s.rf := rfl
@[simp] theorem emit_halted (x : List Output) : (State.emit x s).halted = s.halted := rfl
@[simp] theorem emit_txn (x : List Output) : (State.emit x s).txn = s.txn := rfl
@[simp] theorem emit_watching (x : List Output) : (State.emit x s).watching = s.watching := rfl
@[simp] theorem emit_line (x : List Output) : (State.emit x s).line = s.line := rfl
@[simp] theorem emit_now (x : List Output) : (State.emit x s).now = s.now := rfl
@[simp] theorem emit_pending (x : List Output) : (State.emit x s).pending = s.pending := rfl
@[simp] theorem emit_draws (x : List Output) : (State.emit x s).draws = s.draws := rfl
@[simp] theorem emit_trace (x : List Output) : (State.emit x s).trace = s.trace ++ x := rfl
@[simp] theorem emit_mode (x : List Output) : (State.emit x s).mode = s.mode := rfl

@[simp] theorem diag_pins (x : Diag) : (State.diag x s).pins = s.pins := rfl
@[simp] theorem diag_ptr (x : Diag) : (State.diag x s).ptr = s.ptr := rfl
@[simp] theorem diag_bankMode (x : Diag) : (State.diag x s).bankMode = s.bankMode := rfl
@[simp] theorem diag_sequentialMode (x : Diag) : (State.diag x s).sequentialMode = s.sequentialMode := rfl
@[simp] theorem diag_rwLen (x : Diag) : (State.diag x s).rwLen = s.rwLen := rfl
@[simp] theorem diag_rf (x : Diag) : (State.diag x s).rf = s.rf := rfl
@[simp] theorem diag_halted (x : Diag) : (State.diag x s).halted = s.halted := rfl
@[simp] theorem diag_txn (x : Diag) : (State.diag x s).txn = s.txn := rfl
@[simp] theorem diag_watching (x : Diag) : (State.diag x s).watching = s.watching := rfl
@[simp] theorem diag_line (x : Diag) : (State.diag x s).line = s.line := rfl
@[simp] theorem diag_now (x : Diag) : (State.diag x s).now = s.now := rfl
@[simp] theorem diag_pending (x : Diag) : (State.diag x s).pending = s.pending := rfl
@[simp] theorem diag_draws (x : Diag) : (State.diag x s).draws = s.draws := rfl
@[simp] theorem diag_trace (x : Diag) : (State.diag x s).trace = s.trace ++ [.diag x] := rfl
@[simp] theorem diag_mode (x : Diag) : (State.diag x s).mode = s.mode := rfl

end Sys2Proof.Machine
end

