-- ==== Sys2Proof/Laws/Ops.lean ====
section
/-! SUPPORT. Once for each shared operation, everything it can do. -/

namespace Sys2Proof.Machine

/-! ### Open orders -/

theorem insertAt_perm {α : Type} (x : α) (n : Nat) (l : List α) : (insertAt x n l).Perm (x :: l) := by
  induction l generalizing n with
  | nil => exact .refl _
  | cons y l ih =>
    cases n with
    | zero => exact .refl _
    | succ n => exact ((ih n).cons y).trans (.swap x y l)

/-- Whatever the number, `arrange` gives a permutation. -/
theorem arrange_perm {α : Type} (k : Nat) (l : List α) : (arrange k l).Perm l := by
  induction l generalizing k with
  | nil => exact .refl _
  | cons x l ih => exact (insertAt_perm x _ _).trans ((ih _).cons x)

theorem exists_insertAt {α : Type} (x : α) (l₁ l₂ : List α) : insertAt x l₁.length (l₁ ++ l₂) = l₁ ++ x :: l₂ := by
  induction l₁ with
  | nil => cases l₂ <;> rfl
  | cons y l₁ ih => simp [insertAt, ih]

/-- Every permutation has a number: no order is shut out (R137). -/
theorem exists_arrange {α : Type} (l l' : List α) (h : l'.Perm l) : ∃ k, arrange k l = l' := by
  induction l generalizing l' with
  | nil => exact ⟨0, (List.Perm.eq_nil h).symm⟩
  | cons x l ih =>
    obtain ⟨l₁, l₂, rfl⟩ := List.append_of_mem (h.symm.subset (List.mem_cons_self ..))
    have h' : (l₁ ++ l₂).Perm l := (List.perm_cons x).1 ((List.perm_middle.symm).trans h)
    obtain ⟨k, hk⟩ := ih _ h'
    have hlen : l₁.length < l.length + 1 := by have := h'.length_eq; simp at this; omega
    refine ⟨k * (l.length + 1) + l₁.length, ?_⟩
    have h1 : (k * (l.length + 1) + l₁.length) % (l.length + 1) = l₁.length := by
      rw [Nat.mul_comm, Nat.mul_add_mod, Nat.mod_eq_of_lt hlen]
    have h2 : (k * (l.length + 1) + l₁.length) / (l.length + 1) = k := by
      rw [Nat.mul_comm, Nat.mul_add_div (by omega), Nat.div_eq_of_lt hlen, Nat.add_zero]
    rw [arrange, h1, h2, hk, exists_insertAt]

/-! ### Bytes and pins -/

/-- Lane `k` of a byte built from lanes is lane `k`. -/
@[simp] theorem lane_byteOf (f : Fin 8 → Bool) (k : Fin 8) : lane (byteOf f) k = f k := by
  have h : ∀ b0 b1 b2 b3 b4 b5 b6 b7 : Bool, ∀ k : Fin 8,
      lane (byteOf fun j => [b0, b1, b2, b3, b4, b5, b6, b7].get j) k =
        [b0, b1, b2, b3, b4, b5, b6, b7].get k := by decide
  have hf : f = fun j : Fin 8 => [f 0, f 1, f 2, f 3, f 4, f 5, f 6, f 7].get j := by
    funext j; fin_cases j <;> rfl
  rw [hf]; exact h ..

/-- A byte is determined by its lanes. -/
theorem byte_ext {v w : Byte} (h : ∀ k, lane v k = lane w k) : v = w :=
  BitVec.eq_of_getLsbD_eq fun i hi => h ⟨i, hi⟩

@[simp] theorem bankOf_pinOf (b : Bank) (k : Fin 8) : bankOf (pinOf b k) = b := by revert k; cases b <;> decide

@[simp] theorem laneOf_pinOf (b : Bank) (k : Fin 8) : laneOf (pinOf b k) = k := by revert k; cases b <;> decide

theorem pinOf_bankOf (i : Fin 16) : pinOf (bankOf i) (laneOf i) = i := by revert i; decide

theorem mem_bankPins (b : Bank) (i : Fin 16) : i ∈ bankPins b ↔ bankOf i = b := by revert i; cases b <;> decide

@[simp] theorem toBit_ofBit (bit : Bool) : (Dir.ofBit bit).toBit = bit := by cases bit <;> rfl

@[simp] theorem ofBit_toBit (d : Dir) : Dir.ofBit d.toBit = d := by cases d <;> rfl

/-- A register write touches the pins of its bank and no other. -/
@[simp] theorem mapBank_get (b : Bank) (f : Fin 8 → Pin → Pin) (pins : Vector Pin 16) (n : Nat) (hn : n < 16) :
    (mapBank b f pins)[n] = if bankOf ⟨n, hn⟩ = b then f (laneOf ⟨n, hn⟩) pins[n] else pins[n] := by
  simp [mapBank]

theorem mem_changedPins (b : Bank) (old new : Vector Pin 16) (i : Fin 16) :
    i ∈ changedPins b old new ↔ bankOf i = b ∧ old[i] ≠ new[i] := by
  simp [changedPins, mem_bankPins]

/-! ### Decode and advance -/

/-- Toggle is an involution (R111). -/
theorem advance_toggle_toggle (a : Byte) : advance (advance a .toggle) .toggle = a := by
  simp [advance]

/-- A Cycle advance always gives a valid address (R106). -/
theorem advance_cycle_lt (a : Byte) : (advance a .cycle).toNat < 22 := by
  simp only [advance, BitVec.toNat_ofNat]
  omega

theorem advances_succ (m : Mode) (n : Nat) (a : Byte) : advances m (n + 1) a = advances m n (advance a m) := rfl

/-! ### Fields -/

section Fields
variable (s : State)

@[simp] theorem pushPins_pins (l : List (Fin 16)) : (pushPins l s).pins = s.pins := rfl
@[simp] theorem pushPins_ptr (l : List (Fin 16)) : (pushPins l s).ptr = s.ptr := rfl
@[simp] theorem pushPins_bankMode (l : List (Fin 16)) : (pushPins l s).bankMode = s.bankMode := rfl
@[simp] theorem pushPins_sequentialMode (l : List (Fin 16)) : (pushPins l s).sequentialMode = s.sequentialMode := rfl
@[simp] theorem pushPins_rwLen (l : List (Fin 16)) : (pushPins l s).rwLen = s.rwLen := rfl
@[simp] theorem pushPins_rf (l : List (Fin 16)) : (pushPins l s).rf = s.rf := rfl
@[simp] theorem pushPins_halted (l : List (Fin 16)) : (pushPins l s).halted = s.halted := rfl
@[simp] theorem pushPins_txn (l : List (Fin 16)) : (pushPins l s).txn = s.txn := rfl
@[simp] theorem pushPins_watching (l : List (Fin 16)) : (pushPins l s).watching = s.watching := rfl
@[simp] theorem pushPins_line (l : List (Fin 16)) : (pushPins l s).line = s.line := rfl
@[simp] theorem pushPins_now (l : List (Fin 16)) : (pushPins l s).now = s.now := rfl
@[simp] theorem pushPins_pending (l : List (Fin 16)) : (pushPins l s).pending = s.pending := rfl
@[simp] theorem pushPins_draws (l : List (Fin 16)) : (pushPins l s).draws = s.draws + 1 := rfl
@[simp] theorem pushPins_trace (l : List (Fin 16)) : (pushPins l s).trace = s.trace ++ (arrange (Config.pushOrder s.draws) l).map fun i => .configure i s.pins[i] := rfl

@[simp] theorem writeBank_pins (b : Bank) (f : Fin 8 → Pin → Pin) : (writeBank b f s).pins = mapBank b f s.pins := rfl
@[simp] theorem writeBank_ptr (b : Bank) (f : Fin 8 → Pin → Pin) : (writeBank b f s).ptr = s.ptr := rfl
@[simp] theorem writeBank_bankMode (b : Bank) (f : Fin 8 → Pin → Pin) : (writeBank b f s).bankMode = s.bankMode := rfl
@[simp] theorem writeBank_sequentialMode (b : Bank) (f : Fin 8 → Pin → Pin) : (writeBank b f s).sequentialMode = s.sequentialMode := rfl
@[simp] theorem writeBank_rwLen (b : Bank) (f : Fin 8 → Pin → Pin) : (writeBank b f s).rwLen = s.rwLen := rfl
@[simp] theorem writeBank_rf (b : Bank) (f : Fin 8 → Pin → Pin) : (writeBank b f s).rf = s.rf := rfl
@[simp] theorem writeBank_halted (b : Bank) (f : Fin 8 → Pin → Pin) : (writeBank b f s).halted = s.halted := rfl
@[simp] theorem writeBank_txn (b : Bank) (f : Fin 8 → Pin → Pin) : (writeBank b f s).txn = s.txn := rfl
@[simp] theorem writeBank_watching (b : Bank) (f : Fin 8 → Pin → Pin) : (writeBank b f s).watching = s.watching := rfl
@[simp] theorem writeBank_line (b : Bank) (f : Fin 8 → Pin → Pin) : (writeBank b f s).line = s.line := rfl
@[simp] theorem writeBank_now (b : Bank) (f : Fin 8 → Pin → Pin) : (writeBank b f s).now = s.now := rfl
@[simp] theorem writeBank_pending (b : Bank) (f : Fin 8 → Pin → Pin) : (writeBank b f s).pending = s.pending := rfl
@[simp] theorem writeBank_draws (b : Bank) (f : Fin 8 → Pin → Pin) : (writeBank b f s).draws = s.draws + 1 := rfl
@[simp] theorem writeBank_trace (b : Bank) (f : Fin 8 → Pin → Pin) : (writeBank b f s).trace = s.trace ++ (arrange (Config.pushOrder s.draws) (changedPins b s.pins (mapBank b f s.pins))).map
      fun i => .configure i (mapBank b f s.pins)[i] := rfl

@[simp] theorem raiseFatal_pins (info : FatalInfo) : (raiseFatal info s).pins = s.pins := rfl
@[simp] theorem raiseFatal_ptr (info : FatalInfo) : (raiseFatal info s).ptr = s.ptr := rfl
@[simp] theorem raiseFatal_bankMode (info : FatalInfo) : (raiseFatal info s).bankMode = s.bankMode := rfl
@[simp] theorem raiseFatal_sequentialMode (info : FatalInfo) : (raiseFatal info s).sequentialMode = s.sequentialMode := rfl
@[simp] theorem raiseFatal_rwLen (info : FatalInfo) : (raiseFatal info s).rwLen = s.rwLen := rfl
@[simp] theorem raiseFatal_rf (info : FatalInfo) : (raiseFatal info s).rf = s.rf := rfl
@[simp] theorem raiseFatal_halted (info : FatalInfo) : (raiseFatal info s).halted = true := rfl
@[simp] theorem raiseFatal_txn (info : FatalInfo) : (raiseFatal info s).txn = .idle := rfl
@[simp] theorem raiseFatal_watching (info : FatalInfo) : (raiseFatal info s).watching = s.watching := rfl
@[simp] theorem raiseFatal_line (info : FatalInfo) : (raiseFatal info s).line = s.line := rfl
@[simp] theorem raiseFatal_now (info : FatalInfo) : (raiseFatal info s).now = s.now := rfl
@[simp] theorem raiseFatal_pending (info : FatalInfo) : (raiseFatal info s).pending = s.pending := rfl
@[simp] theorem raiseFatal_draws (info : FatalInfo) : (raiseFatal info s).draws = s.draws := rfl
@[simp] theorem raiseFatal_trace (info : FatalInfo) : (raiseFatal info s).trace = s.trace ++ [.fatal info] := rfl

@[simp] theorem advancePtr_pins : (advancePtr s).pins = s.pins := rfl
@[simp] theorem advancePtr_ptr : (advancePtr s).ptr = advance s.ptr s.mode := rfl
@[simp] theorem advancePtr_bankMode : (advancePtr s).bankMode = s.bankMode := rfl
@[simp] theorem advancePtr_sequentialMode : (advancePtr s).sequentialMode = s.sequentialMode := rfl
@[simp] theorem advancePtr_rwLen : (advancePtr s).rwLen = s.rwLen := rfl
@[simp] theorem advancePtr_rf : (advancePtr s).rf = s.rf := rfl
@[simp] theorem advancePtr_halted : (advancePtr s).halted = s.halted := rfl
@[simp] theorem advancePtr_txn : (advancePtr s).txn = s.txn := rfl
@[simp] theorem advancePtr_watching : (advancePtr s).watching = s.watching := rfl
@[simp] theorem advancePtr_line : (advancePtr s).line = s.line := rfl
@[simp] theorem advancePtr_now : (advancePtr s).now = s.now := rfl
@[simp] theorem advancePtr_pending : (advancePtr s).pending = s.pending := rfl
@[simp] theorem advancePtr_draws : (advancePtr s).draws = s.draws := rfl
@[simp] theorem advancePtr_trace : (advancePtr s).trace = s.trace := rfl

@[simp] theorem advancePtrBy_pins (n : Nat) : (advancePtrBy n s).pins = s.pins := rfl
@[simp] theorem advancePtrBy_ptr (n : Nat) : (advancePtrBy n s).ptr = advances s.mode n s.ptr := rfl
@[simp] theorem advancePtrBy_bankMode (n : Nat) : (advancePtrBy n s).bankMode = s.bankMode := rfl
@[simp] theorem advancePtrBy_sequentialMode (n : Nat) : (advancePtrBy n s).sequentialMode = s.sequentialMode := rfl
@[simp] theorem advancePtrBy_rwLen (n : Nat) : (advancePtrBy n s).rwLen = s.rwLen := rfl
@[simp] theorem advancePtrBy_rf (n : Nat) : (advancePtrBy n s).rf = s.rf := rfl
@[simp] theorem advancePtrBy_halted (n : Nat) : (advancePtrBy n s).halted = s.halted := rfl
@[simp] theorem advancePtrBy_txn (n : Nat) : (advancePtrBy n s).txn = s.txn := rfl
@[simp] theorem advancePtrBy_watching (n : Nat) : (advancePtrBy n s).watching = s.watching := rfl
@[simp] theorem advancePtrBy_line (n : Nat) : (advancePtrBy n s).line = s.line := rfl
@[simp] theorem advancePtrBy_now (n : Nat) : (advancePtrBy n s).now = s.now := rfl
@[simp] theorem advancePtrBy_pending (n : Nat) : (advancePtrBy n s).pending = s.pending := rfl
@[simp] theorem advancePtrBy_draws (n : Nat) : (advancePtrBy n s).draws = s.draws := rfl
@[simp] theorem advancePtrBy_trace (n : Nat) : (advancePtrBy n s).trace = s.trace := rfl

@[simp] theorem finishPrepare_pins (buf : List Byte) : (finishPrepare buf s).pins = s.pins := rfl
@[simp] theorem finishPrepare_ptr (buf : List Byte) : (finishPrepare buf s).ptr = s.ptr := rfl
@[simp] theorem finishPrepare_bankMode (buf : List Byte) : (finishPrepare buf s).bankMode = s.bankMode := rfl
@[simp] theorem finishPrepare_sequentialMode (buf : List Byte) : (finishPrepare buf s).sequentialMode = s.sequentialMode := rfl
@[simp] theorem finishPrepare_rwLen (buf : List Byte) : (finishPrepare buf s).rwLen = buf.length := rfl
@[simp] theorem finishPrepare_rf (buf : List Byte) : (finishPrepare buf s).rf = s.rf := rfl
@[simp] theorem finishPrepare_halted (buf : List Byte) : (finishPrepare buf s).halted = s.halted := rfl
@[simp] theorem finishPrepare_txn (buf : List Byte) : (finishPrepare buf s).txn = .idle := rfl
@[simp] theorem finishPrepare_watching (buf : List Byte) : (finishPrepare buf s).watching = s.watching := rfl
@[simp] theorem finishPrepare_line (buf : List Byte) : (finishPrepare buf s).line = s.line := rfl
@[simp] theorem finishPrepare_now (buf : List Byte) : (finishPrepare buf s).now = s.now := rfl
@[simp] theorem finishPrepare_pending (buf : List Byte) : (finishPrepare buf s).pending = s.pending := rfl
@[simp] theorem finishPrepare_draws (buf : List Byte) : (finishPrepare buf s).draws = s.draws := rfl
@[simp] theorem finishPrepare_trace (buf : List Byte) : (finishPrepare buf s).trace = s.trace ++ [.returned buf] := rfl

@[simp] theorem resetCore_pins : (resetCore s).pins = Vector.replicate 16 Pin.initial := rfl
@[simp] theorem resetCore_ptr : (resetCore s).ptr = 0 := rfl
@[simp] theorem resetCore_bankMode : (resetCore s).bankMode = false := rfl
@[simp] theorem resetCore_sequentialMode : (resetCore s).sequentialMode = false := rfl
@[simp] theorem resetCore_rwLen : (resetCore s).rwLen = 0 := rfl
@[simp] theorem resetCore_rf : (resetCore s).rf = s.rf := rfl
@[simp] theorem resetCore_halted : (resetCore s).halted = s.halted := rfl
@[simp] theorem resetCore_txn : (resetCore s).txn = s.txn := rfl
@[simp] theorem resetCore_watching : (resetCore s).watching = s.watching := rfl
@[simp] theorem resetCore_line : (resetCore s).line = s.line := rfl
@[simp] theorem resetCore_now : (resetCore s).now = s.now := rfl
@[simp] theorem resetCore_pending : (resetCore s).pending = s.pending := rfl
@[simp] theorem resetCore_draws : (resetCore s).draws = s.draws + 1 := rfl
@[simp] theorem resetCore_trace : (resetCore s).trace = s.trace ++ (arrange (Config.pushOrder s.draws) allPins).map
      fun i => .configure i (Vector.replicate 16 Pin.initial)[i] := rfl

@[simp] theorem dropMonitor_pins : (dropMonitor s).pins = s.pins := rfl
@[simp] theorem dropMonitor_ptr : (dropMonitor s).ptr = s.ptr := rfl
@[simp] theorem dropMonitor_bankMode : (dropMonitor s).bankMode = s.bankMode := rfl
@[simp] theorem dropMonitor_sequentialMode : (dropMonitor s).sequentialMode = s.sequentialMode := rfl
@[simp] theorem dropMonitor_rwLen : (dropMonitor s).rwLen = s.rwLen := rfl
@[simp] theorem dropMonitor_rf : (dropMonitor s).rf = .waitLow := rfl
@[simp] theorem dropMonitor_halted : (dropMonitor s).halted = s.halted := rfl
@[simp] theorem dropMonitor_txn : (dropMonitor s).txn = s.txn := rfl
@[simp] theorem dropMonitor_watching : (dropMonitor s).watching = false := rfl
@[simp] theorem dropMonitor_line : (dropMonitor s).line = s.line := rfl
@[simp] theorem dropMonitor_now : (dropMonitor s).now = s.now := rfl
@[simp] theorem dropMonitor_pending : (dropMonitor s).pending = s.pending := rfl
@[simp] theorem dropMonitor_draws : (dropMonitor s).draws = s.draws := rfl
@[simp] theorem dropMonitor_trace : (dropMonitor s).trace = s.trace := rfl

@[simp] theorem sampleLines_pins (b : Bank) : (sampleLines b s).pins = s.pins := rfl
@[simp] theorem sampleLines_ptr (b : Bank) : (sampleLines b s).ptr = s.ptr := rfl
@[simp] theorem sampleLines_bankMode (b : Bank) : (sampleLines b s).bankMode = s.bankMode := rfl
@[simp] theorem sampleLines_sequentialMode (b : Bank) : (sampleLines b s).sequentialMode = s.sequentialMode := rfl
@[simp] theorem sampleLines_rwLen (b : Bank) : (sampleLines b s).rwLen = s.rwLen := rfl
@[simp] theorem sampleLines_rf (b : Bank) : (sampleLines b s).rf = s.rf := rfl
@[simp] theorem sampleLines_halted (b : Bank) : (sampleLines b s).halted = s.halted := rfl
@[simp] theorem sampleLines_txn (b : Bank) : (sampleLines b s).txn = s.txn := rfl
@[simp] theorem sampleLines_watching (b : Bank) : (sampleLines b s).watching = s.watching := rfl
@[simp] theorem sampleLines_line (b : Bank) : (sampleLines b s).line = s.line := rfl
@[simp] theorem sampleLines_now (b : Bank) : (sampleLines b s).now = s.now := rfl
@[simp] theorem sampleLines_pending (b : Bank) : (sampleLines b s).pending = s.pending := rfl
@[simp] theorem sampleLines_draws (b : Bank) : (sampleLines b s).draws = s.draws + 1 := rfl
@[simp] theorem sampleLines_trace (b : Bank) : (sampleLines b s).trace = s.trace ++ (arrange (Config.sampleOrder s.draws) (inputPins b s)).map
      fun i => .sampled i (Config.lineLevel s.draws i) := rfl

@[simp] theorem enterMonitor_pins (t : Nat) : (enterMonitor t s).pins = s.pins := by cases h : s.line <;> simp [enterMonitor, h]
@[simp] theorem enterMonitor_ptr (t : Nat) : (enterMonitor t s).ptr = s.ptr := by cases h : s.line <;> simp [enterMonitor, h]
@[simp] theorem enterMonitor_bankMode (t : Nat) : (enterMonitor t s).bankMode = s.bankMode := by cases h : s.line <;> simp [enterMonitor, h]
@[simp] theorem enterMonitor_sequentialMode (t : Nat) : (enterMonitor t s).sequentialMode = s.sequentialMode := by cases h : s.line <;> simp [enterMonitor, h]
@[simp] theorem enterMonitor_rwLen (t : Nat) : (enterMonitor t s).rwLen = s.rwLen := by cases h : s.line <;> simp [enterMonitor, h]
@[simp] theorem enterMonitor_halted (t : Nat) : (enterMonitor t s).halted = s.halted := by cases h : s.line <;> simp [enterMonitor, h]
@[simp] theorem enterMonitor_txn (t : Nat) : (enterMonitor t s).txn = s.txn := by cases h : s.line <;> simp [enterMonitor, h]
@[simp] theorem enterMonitor_watching (t : Nat) : (enterMonitor t s).watching = true := by cases h : s.line <;> simp [enterMonitor, h]
@[simp] theorem enterMonitor_line (t : Nat) : (enterMonitor t s).line = s.line := by cases h : s.line <;> simp [enterMonitor, h]
@[simp] theorem enterMonitor_now (t : Nat) : (enterMonitor t s).now = s.now := by cases h : s.line <;> simp [enterMonitor, h]
@[simp] theorem enterMonitor_pending (t : Nat) : (enterMonitor t s).pending = s.pending := by cases h : s.line <;> simp [enterMonitor, h]
@[simp] theorem enterMonitor_trace (t : Nat) : (enterMonitor t s).trace = s.trace := by cases h : s.line <;> simp [enterMonitor, h]

@[simp] theorem deliver_pins (v : Byte) : (deliver v s).pins = s.pins := by
  unfold deliver; split <;> [split; skip; skip] <;> rfl
@[simp] theorem deliver_ptr (v : Byte) : (deliver v s).ptr = s.ptr := by
  unfold deliver; split <;> [split; skip; skip] <;> rfl
@[simp] theorem deliver_bankMode (v : Byte) : (deliver v s).bankMode = s.bankMode := by
  unfold deliver; split <;> [split; skip; skip] <;> rfl
@[simp] theorem deliver_sequentialMode (v : Byte) : (deliver v s).sequentialMode = s.sequentialMode := by
  unfold deliver; split <;> [split; skip; skip] <;> rfl
@[simp] theorem deliver_rf (v : Byte) : (deliver v s).rf = s.rf := by
  unfold deliver; split <;> [split; skip; skip] <;> rfl
@[simp] theorem deliver_halted (v : Byte) : (deliver v s).halted = s.halted := by
  unfold deliver; split <;> [split; skip; skip] <;> rfl
@[simp] theorem deliver_watching (v : Byte) : (deliver v s).watching = s.watching := by
  unfold deliver; split <;> [split; skip; skip] <;> rfl
@[simp] theorem deliver_line (v : Byte) : (deliver v s).line = s.line := by
  unfold deliver; split <;> [split; skip; skip] <;> rfl
@[simp] theorem deliver_now (v : Byte) : (deliver v s).now = s.now := by
  unfold deliver; split <;> [split; skip; skip] <;> rfl
@[simp] theorem deliver_pending (v : Byte) : (deliver v s).pending = s.pending := by
  unfold deliver; split <;> [split; skip; skip] <;> rfl
@[simp] theorem deliver_draws (v : Byte) : (deliver v s).draws = s.draws := by
  unfold deliver; split <;> [split; skip; skip] <;> rfl

end Fields

/-! ### The cases of an operation -/

/-- An operation answers a next state exactly when the core is live (R204). -/
theorem running_eq_next {s t u : State} : running s t = .next u ↔ s.halted = false ∧ t = u := by
  unfold running; cases s.halted <;> simp

theorem running_live {s t : State} (h : s.halted = false) : running s t = .next t := by simp [running, h]

/-- A buffer byte that is not the last one. -/
theorem deliver_more {s : State} {l : Byte} {m : Nat} {buf : List Byte} (v : Byte) (h : s.txn = .read l (m + 1) buf) :
    deliver v s = s.setTxn (.read (advance l s.mode) m (buf ++ [v])) := by
  simp [deliver, h]

/-- The last buffer byte ends the prepare. -/
theorem deliver_last {s : State} {l : Byte} {buf : List Byte} (v : Byte) (h : s.txn = .read l 0 buf) :
    deliver v s = finishPrepare (buf ++ [v]) s := by
  simp [deliver, h]

/-- The monitor's entry with the line high. -/
theorem enterMonitor_high {s : State} (t : Nat) (h : s.line = .high) :
    enterMonitor t s = (s.setRf .waitLow).setWatching true := by
  simp [enterMonitor, h]

/-- The monitor's entry with the line low: it waits for low, or takes the line as low from now. -/
theorem enterMonitor_low {s : State} (t : Nat) (h : s.line = .low) :
    (enterMonitor t s).rf = .waitLow ∨ (enterMonitor t s).rf = .waitHigh t := by
  simp only [enterMonitor, h, drawn_rf, setWatching_rf, setRf_rf]
  cases Config.waitLowIsLevel s.draws <;> simp

/-- A change of the line while nothing watches it. -/
theorem lineChange_dropped {s : State} (lv : Level) (t : Nat) (h : s.watching = false) :
    lineChange lv t s = s.setLine lv := by
  simp [lineChange, h]

end Sys2Proof.Machine
end

