-- ==== Sys2Proof/Laws/Exec.lean ====
section
/-! SUPPORT. What each group of operations is over the shared operations, and once for all of them what an operation and a
step can do. -/

namespace Sys2Proof.Machine

variable (s : State) (m : Bool) (b : Bank)

/-! ### The meaning of a register access by its register -/

theorem exec_wr_iodir (v : Byte) : exec (Instr.wr m .IODIR b v) s = running s (advancePtr (wrIodir b v s)) := by
  cases m <;> cases b <;> rfl

theorem exec_wr_gppu (v : Byte) : exec (Instr.wr m .GPPU b v) s = running s (advancePtr (wrGppu b v s)) := by
  cases m <;> cases b <;> rfl

theorem exec_wr_gpio (v : Byte) : exec (Instr.wr m .GPIO b v) s = running s (advancePtr (wrGpio b v s)) := by
  cases m <;> cases b <;> rfl

theorem exec_wr_olat (v : Byte) : exec (Instr.wr m .OLAT b v) s = running s (advancePtr (wrOlat b v s)) := by
  cases m <;> cases b <;> rfl

theorem exec_rd_iodir : exec (Instr.rd m .IODIR b) s = running s (rdIodir b s) := by cases m <;> cases b <;> rfl

theorem exec_rd_gppu : exec (Instr.rd m .GPPU b) s = running s (rdGppu b s) := by cases m <;> cases b <;> rfl

theorem exec_rd_gpio : exec (Instr.rd m .GPIO b) s = running s (rdGpio b s) := by cases m <;> cases b <;> rfl

theorem exec_rd_olat : exec (Instr.rd m .OLAT b) s = running s (rdOlat b s) := by cases m <;> cases b <;> rfl

/-- The address an unimplemented access reports is the register's own in its layout (R102). -/
theorem exec_wr_unimplemented (v : Byte) {ty : RegType} (h : ty.implemented = false) :
    exec (Instr.wr m ty b v) s = running s (wrUnimplemented ty b (registerAddress m ty b) v s) := by
  cases ty <;> first | (exact absurd h (by decide)) | (cases m <;> cases b <;> rfl)

theorem exec_rd_unimplemented {ty : RegType} (h : ty.implemented = false) :
    exec (Instr.rd m ty b) s = running s (rdUnimplemented ty b (registerAddress m ty b) s) := by
  cases ty <;> first | (exact absurd h (by decide)) | (cases m <;> cases b <;> rfl)

/-! ### What an operation can do -/

/-- Everything an operation can do, by its kind. -/
inductive Effect : Instr → State → State → Prop
  | write {i : Instr} {s : State} (b : Bank) (f : Fin 8 → Pin → Pin) (hk : i.kind = .writeAccess) :
      Effect i s (advancePtr (writeBank b f s))
  | invalidWrite {i : Instr} {s : State} (a v : Byte) (hk : i.kind = .writeAccess) :
      Effect i s (advancePtr (s.diag (.invalidWrite a v)))
  | fatal {i : Instr} {s : State} (info : FatalInfo) (hk : i.kind = .writeAccess ∨ i.kind = .readAccess) :
      Effect i s (raiseFatal info s)
  | read {i : Instr} {s : State} (v : Byte) (hk : i.kind = .readAccess) : Effect i s (deliver v s)
  | sample {i : Instr} {s : State} (v : Byte) (b : Bank) (hk : i.kind = .readAccess) :
      Effect i s (deliver v (sampleLines b s))
  | invalidRead {i : Instr} {s : State} (v a : Byte) (hk : i.kind = .readAccess) :
      Effect i s (deliver v ((s.diag (.invalidRead a)).drawn))
  | writeTxn {s : State} (bytes : List Byte) : Effect (.writeTxn bytes) s (startWrite bytes s)
  | prepare {s : State} (len : Nat) : Effect (.prepare len) s (startPrepare len s)
  | confirm {s : State} (n : Nat) : Effect (.confirm n) s (confirmRead n s)
  | reset {s : State} : Effect .reset s (resetCore s)
  | run {s : State} (st : RunStep) : Effect (.run st) s (monitorStep st s)

theorem Effect.of_wrIodir {i : Instr} {s : State} {b : Bank} {v : Byte} (hk : i.kind = .writeAccess) :
    Effect i s (advancePtr (wrIodir b v s)) := .write _ _ hk
theorem Effect.of_wrGppu {i : Instr} {s : State} {b : Bank} {v : Byte} (hk : i.kind = .writeAccess) :
    Effect i s (advancePtr (wrGppu b v s)) := .write _ _ hk
theorem Effect.of_wrGpio {i : Instr} {s : State} {b : Bank} {v : Byte} (hk : i.kind = .writeAccess) :
    Effect i s (advancePtr (wrGpio b v s)) := .write _ _ hk
theorem Effect.of_wrOlat {i : Instr} {s : State} {b : Bank} {v : Byte} (hk : i.kind = .writeAccess) :
    Effect i s (advancePtr (wrOlat b v s)) := .write _ _ hk
theorem Effect.of_wrInvalid {i : Instr} {s : State} {a v : Byte} (hk : i.kind = .writeAccess) :
    Effect i s (advancePtr (wrInvalid a v s)) := .invalidWrite _ _ hk
theorem Effect.of_wrUnimplemented {i : Instr} {s : State} {ty : RegType} {b : Bank} {a v : Byte}
    (hk : i.kind = .writeAccess) : Effect i s (wrUnimplemented ty b a v s) := .fatal _ (.inl hk)
theorem Effect.of_rdIodir {i : Instr} {s : State} {b : Bank} (hk : i.kind = .readAccess) :
    Effect i s (rdIodir b s) := .read _ hk
theorem Effect.of_rdGppu {i : Instr} {s : State} {b : Bank} (hk : i.kind = .readAccess) :
    Effect i s (rdGppu b s) := .read _ hk
theorem Effect.of_rdGpio {i : Instr} {s : State} {b : Bank} (hk : i.kind = .readAccess) :
    Effect i s (rdGpio b s) := .sample _ _ hk
theorem Effect.of_rdOlat {i : Instr} {s : State} {b : Bank} (hk : i.kind = .readAccess) :
    Effect i s (rdOlat b s) := by
  unfold rdOlat
  cases Config.olatRead
  · exact .sample _ _ hk
  · exact .read _ hk
theorem Effect.of_rdInvalid {i : Instr} {s : State} {a : Byte} (hk : i.kind = .readAccess) :
    Effect i s (rdInvalid a s) := .invalidRead _ _ hk
theorem Effect.of_rdUnimplemented {i : Instr} {s : State} {ty : RegType} {b : Bank} {a : Byte}
    (hk : i.kind = .readAccess) : Effect i s (rdUnimplemented ty b a s) := .fatal _ (.inr hk)

/-- An operation's answer is one of its effects, given exactly while the core is live (R204). -/
theorem exec_effect (i : Instr) (s : State) : ∃ t, exec i s = running s t ∧ Effect i s t := by
  cases i <;> refine ⟨_, rfl, ?_⟩
  case writeTxn bytes => exact .writeTxn bytes
  case prepare len => exact .prepare len
  case confirm n => exact .confirm n
  case reset => exact .reset
  case run st => exact .run st
  all_goals
    first
      | with_reducible refine Effect.of_wrUnimplemented ?_
      | with_reducible refine Effect.of_rdUnimplemented ?_
      | with_reducible refine Effect.of_wrIodir ?_
      | with_reducible refine Effect.of_wrGppu ?_
      | with_reducible refine Effect.of_wrGpio ?_
      | with_reducible refine Effect.of_wrOlat ?_
      | with_reducible refine Effect.of_wrInvalid ?_
      | with_reducible refine Effect.of_rdIodir ?_
      | with_reducible refine Effect.of_rdGppu ?_
      | with_reducible refine Effect.of_rdGpio ?_
      | with_reducible refine Effect.of_rdOlat ?_
      | with_reducible refine Effect.of_rdInvalid ?_
    rfl

/-- If an operation answers a next state, the core was live and the state is one of its effects. -/
theorem effect_of_exec {i : Instr} {s t : State} (h : exec i s = .next t) : s.halted = false ∧ Effect i s t := by
  obtain ⟨u, hu, he⟩ := exec_effect i s
  rw [hu, running_eq_next] at h
  exact ⟨h.1, h.2 ▸ he⟩

/-- A reset has no other effect. -/
theorem effect_reset {s t : State} (h : Effect .reset s t) : t = resetCore s := by
  cases h with
  | reset => rfl
  | fatal _ hk => rcases hk with hk | hk <;> simp [Instr.kind] at hk
  | write _ _ hk | invalidWrite _ _ hk | read _ hk | sample _ _ hk | invalidRead _ _ hk => simp [Instr.kind] at hk

/-- A step of the monitor has no other effect. -/
theorem effect_run {st : RunStep} {s t : State} (h : Effect (.run st) s t) : t = monitorStep st s := by
  cases h with
  | run => rfl
  | fatal _ hk => rcases hk with hk | hk <;> simp [Instr.kind] at hk
  | write _ _ hk | invalidWrite _ _ hk | read _ hk | sample _ _ hk | invalidRead _ _ hk => simp [Instr.kind] at hk

/-! ### What a step does -/

/-- A live core runs what it takes. -/
theorem step_of_fetch {s taken : State} {f : Fetched} {i : Instr} (hs : s.halted = false)
    (hf : fetch s = some (f, taken)) (hd : decode f = .ok i) :
    step s = finishStep i (exec i (ownerBefore i taken)) := by
  simp [step, hs, hf, hd]

theorem fetch_write {s : State} {v : Byte} {rest : List Byte} (h : s.txn = .write v rest) :
    fetch s = some (.access (accessKey .wr s.bankMode s.ptr) v, s.setTxn (Txn.ofBytes rest)) := by
  simp [fetch, h]

theorem fetch_read {s : State} {lptr : Byte} {more : Nat} {buf : List Byte} (h : s.txn = .read lptr more buf) :
    fetch s = some (.access (accessKey .rd s.bankMode lptr) 0, s) := by
  simp [fetch, h]

theorem fetch_call {s : State} {c : Call} {rest : List Call} (ht : s.txn = .idle) (hp : s.pending = c :: rest) :
    fetch s = some (.call { c with time := max s.now c.time }, (s.setPending rest).setNow (max s.now c.time)) := by
  simp [fetch, ht, hp]

/-! ### What a step can do -/

/-- If a step answers a next state, the core was live, and either there was nothing to take or the operation taken had an
effect between the two parts of the owning loop (R219). -/
theorem step_cases {s t : State} (h : step s = .next t) :
    s.halted = false ∧
      ((fetch s = none ∧ t = s) ∨
        ∃ f taken i u, fetch s = some (f, taken) ∧ decode f = .ok i ∧ Effect i (ownerBefore i taken) u ∧
          t = ownerAfter i u) := by
  unfold step at h
  cases hh : s.halted with
  | true => simp [hh] at h
  | false =>
    refine ⟨rfl, ?_⟩
    simp only [hh, Bool.false_eq_true, if_false] at h
    cases hf : fetch s with
    | none => simp only [hf, Host.Outcome.next.injEq] at h; exact .inl ⟨rfl, h.symm⟩
    | some p =>
      obtain ⟨f, taken⟩ := p
      simp only [hf] at h
      cases hd : decode f with
      | error r => simp [hd] at h
      | ok i =>
        simp only [hd] at h
        cases he : exec i (ownerBefore i taken) with
        | next u =>
          simp only [he, finishStep, Host.Outcome.next.injEq] at h
          exact .inr ⟨f, taken, i, u, rfl, hd, (effect_of_exec he).2, h.symm⟩
        | fault _ => simp [he, finishStep] at h
        | refused _ => simp [he, finishStep] at h

/-- The kind of what a key decodes to (R74). -/
theorem decodeWrite_kind (a : Byte) (m : Bool) (v : Byte) : (decodeWrite a m v).kind = .writeAccess := by
  unfold decodeWrite
  split
  · rename_i t b _; cases m <;> cases t <;> cases b <;> rfl
  · cases m <;> rfl

theorem decodeRead_kind (a : Byte) (m : Bool) : (decodeRead a m).kind = .readAccess := by
  unfold decodeRead
  split
  · rename_i t b _; cases m <;> cases t <;> cases b <;> rfl
  · cases m <;> rfl

end Sys2Proof.Machine
end

