-- ==== Sys2Proof/Laws/PerInstr.lean ====
section
/-! SUPPORT. Statements about every operation as syntax, one lemma per constructor of `Instr`. -/

namespace Sys2Proof.Laws.RowOfMnemonic

/-- The encoding of a well-formed operation lies in an opcode-table row of the operation's own mnemonic. -/
def Statement (i : Instr) : Prop := i.wellFormed = true → inRowOf i.mnemonic (encode i) = true

theorem wrIodirA_b0 (v : Byte) : Statement (.wrIodirA_b0 v) :=
  fun _ => (by decide : inRowOf "WR.IODIRA.b0" (.access 0x0#10 0) = true)
theorem wrIodirB_b0 (v : Byte) : Statement (.wrIodirB_b0 v) :=
  fun _ => (by decide : inRowOf "WR.IODIRB.b0" (.access 0x1#10 0) = true)
theorem wrIpolA_b0 (v : Byte) : Statement (.wrIpolA_b0 v) :=
  fun _ => (by decide : inRowOf "WR.IPOLA.b0" (.access 0x2#10 0) = true)
theorem wrIpolB_b0 (v : Byte) : Statement (.wrIpolB_b0 v) :=
  fun _ => (by decide : inRowOf "WR.IPOLB.b0" (.access 0x3#10 0) = true)
theorem wrGpintenA_b0 (v : Byte) : Statement (.wrGpintenA_b0 v) :=
  fun _ => (by decide : inRowOf "WR.GPINTENA.b0" (.access 0x4#10 0) = true)
theorem wrGpintenB_b0 (v : Byte) : Statement (.wrGpintenB_b0 v) :=
  fun _ => (by decide : inRowOf "WR.GPINTENB.b0" (.access 0x5#10 0) = true)
theorem wrDefvalA_b0 (v : Byte) : Statement (.wrDefvalA_b0 v) :=
  fun _ => (by decide : inRowOf "WR.DEFVALA.b0" (.access 0x6#10 0) = true)
theorem wrDefvalB_b0 (v : Byte) : Statement (.wrDefvalB_b0 v) :=
  fun _ => (by decide : inRowOf "WR.DEFVALB.b0" (.access 0x7#10 0) = true)
theorem wrIntconA_b0 (v : Byte) : Statement (.wrIntconA_b0 v) :=
  fun _ => (by decide : inRowOf "WR.INTCONA.b0" (.access 0x8#10 0) = true)
theorem wrIntconB_b0 (v : Byte) : Statement (.wrIntconB_b0 v) :=
  fun _ => (by decide : inRowOf "WR.INTCONB.b0" (.access 0x9#10 0) = true)
theorem wrIoconA_b0 (v : Byte) : Statement (.wrIoconA_b0 v) :=
  fun _ => (by decide : inRowOf "WR.IOCONA.b0" (.access 0xa#10 0) = true)
theorem wrIoconB_b0 (v : Byte) : Statement (.wrIoconB_b0 v) :=
  fun _ => (by decide : inRowOf "WR.IOCONB.b0" (.access 0xb#10 0) = true)
theorem wrGppuA_b0 (v : Byte) : Statement (.wrGppuA_b0 v) :=
  fun _ => (by decide : inRowOf "WR.GPPUA.b0" (.access 0xc#10 0) = true)
theorem wrGppuB_b0 (v : Byte) : Statement (.wrGppuB_b0 v) :=
  fun _ => (by decide : inRowOf "WR.GPPUB.b0" (.access 0xd#10 0) = true)
theorem wrIntfA_b0 (v : Byte) : Statement (.wrIntfA_b0 v) :=
  fun _ => (by decide : inRowOf "WR.INTFA.b0" (.access 0xe#10 0) = true)
theorem wrIntfB_b0 (v : Byte) : Statement (.wrIntfB_b0 v) :=
  fun _ => (by decide : inRowOf "WR.INTFB.b0" (.access 0xf#10 0) = true)
theorem wrIntcapA_b0 (v : Byte) : Statement (.wrIntcapA_b0 v) :=
  fun _ => (by decide : inRowOf "WR.INTCAPA.b0" (.access 0x10#10 0) = true)
theorem wrIntcapB_b0 (v : Byte) : Statement (.wrIntcapB_b0 v) :=
  fun _ => (by decide : inRowOf "WR.INTCAPB.b0" (.access 0x11#10 0) = true)
theorem wrGpioA_b0 (v : Byte) : Statement (.wrGpioA_b0 v) :=
  fun _ => (by decide : inRowOf "WR.GPIOA.b0" (.access 0x12#10 0) = true)
theorem wrGpioB_b0 (v : Byte) : Statement (.wrGpioB_b0 v) :=
  fun _ => (by decide : inRowOf "WR.GPIOB.b0" (.access 0x13#10 0) = true)
theorem wrOlatA_b0 (v : Byte) : Statement (.wrOlatA_b0 v) :=
  fun _ => (by decide : inRowOf "WR.OLATA.b0" (.access 0x14#10 0) = true)
theorem wrOlatB_b0 (v : Byte) : Statement (.wrOlatB_b0 v) :=
  fun _ => (by decide : inRowOf "WR.OLATB.b0" (.access 0x15#10 0) = true)
theorem wrIodirA_b1 (v : Byte) : Statement (.wrIodirA_b1 v) :=
  fun _ => (by decide : inRowOf "WR.IODIRA.b1" (.access 0x100#10 0) = true)
theorem wrIpolA_b1 (v : Byte) : Statement (.wrIpolA_b1 v) :=
  fun _ => (by decide : inRowOf "WR.IPOLA.b1" (.access 0x101#10 0) = true)
theorem wrGpintenA_b1 (v : Byte) : Statement (.wrGpintenA_b1 v) :=
  fun _ => (by decide : inRowOf "WR.GPINTENA.b1" (.access 0x102#10 0) = true)
theorem wrDefvalA_b1 (v : Byte) : Statement (.wrDefvalA_b1 v) :=
  fun _ => (by decide : inRowOf "WR.DEFVALA.b1" (.access 0x103#10 0) = true)
theorem wrIntconA_b1 (v : Byte) : Statement (.wrIntconA_b1 v) :=
  fun _ => (by decide : inRowOf "WR.INTCONA.b1" (.access 0x104#10 0) = true)
theorem wrIoconA_b1 (v : Byte) : Statement (.wrIoconA_b1 v) :=
  fun _ => (by decide : inRowOf "WR.IOCONA.b1" (.access 0x105#10 0) = true)
theorem wrGppuA_b1 (v : Byte) : Statement (.wrGppuA_b1 v) :=
  fun _ => (by decide : inRowOf "WR.GPPUA.b1" (.access 0x106#10 0) = true)
theorem wrIntfA_b1 (v : Byte) : Statement (.wrIntfA_b1 v) :=
  fun _ => (by decide : inRowOf "WR.INTFA.b1" (.access 0x107#10 0) = true)
theorem wrIntcapA_b1 (v : Byte) : Statement (.wrIntcapA_b1 v) :=
  fun _ => (by decide : inRowOf "WR.INTCAPA.b1" (.access 0x108#10 0) = true)
theorem wrGpioA_b1 (v : Byte) : Statement (.wrGpioA_b1 v) :=
  fun _ => (by decide : inRowOf "WR.GPIOA.b1" (.access 0x109#10 0) = true)
theorem wrOlatA_b1 (v : Byte) : Statement (.wrOlatA_b1 v) :=
  fun _ => (by decide : inRowOf "WR.OLATA.b1" (.access 0x10a#10 0) = true)
theorem wrIodirB_b1 (v : Byte) : Statement (.wrIodirB_b1 v) :=
  fun _ => (by decide : inRowOf "WR.IODIRB.b1" (.access 0x10b#10 0) = true)
theorem wrIpolB_b1 (v : Byte) : Statement (.wrIpolB_b1 v) :=
  fun _ => (by decide : inRowOf "WR.IPOLB.b1" (.access 0x10c#10 0) = true)
theorem wrGpintenB_b1 (v : Byte) : Statement (.wrGpintenB_b1 v) :=
  fun _ => (by decide : inRowOf "WR.GPINTENB.b1" (.access 0x10d#10 0) = true)
theorem wrDefvalB_b1 (v : Byte) : Statement (.wrDefvalB_b1 v) :=
  fun _ => (by decide : inRowOf "WR.DEFVALB.b1" (.access 0x10e#10 0) = true)
theorem wrIntconB_b1 (v : Byte) : Statement (.wrIntconB_b1 v) :=
  fun _ => (by decide : inRowOf "WR.INTCONB.b1" (.access 0x10f#10 0) = true)
theorem wrIoconB_b1 (v : Byte) : Statement (.wrIoconB_b1 v) :=
  fun _ => (by decide : inRowOf "WR.IOCONB.b1" (.access 0x110#10 0) = true)
theorem wrGppuB_b1 (v : Byte) : Statement (.wrGppuB_b1 v) :=
  fun _ => (by decide : inRowOf "WR.GPPUB.b1" (.access 0x111#10 0) = true)
theorem wrIntfB_b1 (v : Byte) : Statement (.wrIntfB_b1 v) :=
  fun _ => (by decide : inRowOf "WR.INTFB.b1" (.access 0x112#10 0) = true)
theorem wrIntcapB_b1 (v : Byte) : Statement (.wrIntcapB_b1 v) :=
  fun _ => (by decide : inRowOf "WR.INTCAPB.b1" (.access 0x113#10 0) = true)
theorem wrGpioB_b1 (v : Byte) : Statement (.wrGpioB_b1 v) :=
  fun _ => (by decide : inRowOf "WR.GPIOB.b1" (.access 0x114#10 0) = true)
theorem wrOlatB_b1 (v : Byte) : Statement (.wrOlatB_b1 v) :=
  fun _ => (by decide : inRowOf "WR.OLATB.b1" (.access 0x115#10 0) = true)
theorem rdIodirA_b0 : Statement .rdIodirA_b0 := by unfold Statement; decide
theorem rdIodirB_b0 : Statement .rdIodirB_b0 := by unfold Statement; decide
theorem rdIpolA_b0 : Statement .rdIpolA_b0 := by unfold Statement; decide
theorem rdIpolB_b0 : Statement .rdIpolB_b0 := by unfold Statement; decide
theorem rdGpintenA_b0 : Statement .rdGpintenA_b0 := by unfold Statement; decide
theorem rdGpintenB_b0 : Statement .rdGpintenB_b0 := by unfold Statement; decide
theorem rdDefvalA_b0 : Statement .rdDefvalA_b0 := by unfold Statement; decide
theorem rdDefvalB_b0 : Statement .rdDefvalB_b0 := by unfold Statement; decide
theorem rdIntconA_b0 : Statement .rdIntconA_b0 := by unfold Statement; decide
theorem rdIntconB_b0 : Statement .rdIntconB_b0 := by unfold Statement; decide
theorem rdIoconA_b0 : Statement .rdIoconA_b0 := by unfold Statement; decide
theorem rdIoconB_b0 : Statement .rdIoconB_b0 := by unfold Statement; decide
theorem rdGppuA_b0 : Statement .rdGppuA_b0 := by unfold Statement; decide
theorem rdGppuB_b0 : Statement .rdGppuB_b0 := by unfold Statement; decide
theorem rdIntfA_b0 : Statement .rdIntfA_b0 := by unfold Statement; decide
theorem rdIntfB_b0 : Statement .rdIntfB_b0 := by unfold Statement; decide
theorem rdIntcapA_b0 : Statement .rdIntcapA_b0 := by unfold Statement; decide
theorem rdIntcapB_b0 : Statement .rdIntcapB_b0 := by unfold Statement; decide
theorem rdGpioA_b0 : Statement .rdGpioA_b0 := by unfold Statement; decide
theorem rdGpioB_b0 : Statement .rdGpioB_b0 := by unfold Statement; decide
theorem rdOlatA_b0 : Statement .rdOlatA_b0 := by unfold Statement; decide
theorem rdOlatB_b0 : Statement .rdOlatB_b0 := by unfold Statement; decide
theorem rdIodirA_b1 : Statement .rdIodirA_b1 := by unfold Statement; decide
theorem rdIpolA_b1 : Statement .rdIpolA_b1 := by unfold Statement; decide
theorem rdGpintenA_b1 : Statement .rdGpintenA_b1 := by unfold Statement; decide
theorem rdDefvalA_b1 : Statement .rdDefvalA_b1 := by unfold Statement; decide
theorem rdIntconA_b1 : Statement .rdIntconA_b1 := by unfold Statement; decide
theorem rdIoconA_b1 : Statement .rdIoconA_b1 := by unfold Statement; decide
theorem rdGppuA_b1 : Statement .rdGppuA_b1 := by unfold Statement; decide
theorem rdIntfA_b1 : Statement .rdIntfA_b1 := by unfold Statement; decide
theorem rdIntcapA_b1 : Statement .rdIntcapA_b1 := by unfold Statement; decide
theorem rdGpioA_b1 : Statement .rdGpioA_b1 := by unfold Statement; decide
theorem rdOlatA_b1 : Statement .rdOlatA_b1 := by unfold Statement; decide
theorem rdIodirB_b1 : Statement .rdIodirB_b1 := by unfold Statement; decide
theorem rdIpolB_b1 : Statement .rdIpolB_b1 := by unfold Statement; decide
theorem rdGpintenB_b1 : Statement .rdGpintenB_b1 := by unfold Statement; decide
theorem rdDefvalB_b1 : Statement .rdDefvalB_b1 := by unfold Statement; decide
theorem rdIntconB_b1 : Statement .rdIntconB_b1 := by unfold Statement; decide
theorem rdIoconB_b1 : Statement .rdIoconB_b1 := by unfold Statement; decide
theorem rdGppuB_b1 : Statement .rdGppuB_b1 := by unfold Statement; decide
theorem rdIntfB_b1 : Statement .rdIntfB_b1 := by unfold Statement; decide
theorem rdIntcapB_b1 : Statement .rdIntcapB_b1 := by unfold Statement; decide
theorem rdGpioB_b1 : Statement .rdGpioB_b1 := by unfold Statement; decide
theorem rdOlatB_b1 : Statement .rdOlatB_b1 := by unfold Statement; decide

/-- The five ranges of each INVALID mnemonic cover every address that decodes to no register. -/
theorem invalid_rows : ∀ a : Byte, invalidAddress a = true →
    inRowOf "WR.INVALID.b0" (.access (accessKey .wr false a) 0) = true ∧
    inRowOf "WR.INVALID.b1" (.access (accessKey .wr true a) 0) = true ∧
    inRowOf "RD.INVALID.b0" (.access (accessKey .rd false a) 0) = true ∧
    inRowOf "RD.INVALID.b1" (.access (accessKey .rd true a) 0) = true := by decide

theorem wrInvalid_b0 (a v : Byte) : Statement (.wrInvalid_b0 a v) := fun h => (invalid_rows a h).1
theorem wrInvalid_b1 (a v : Byte) : Statement (.wrInvalid_b1 a v) := fun h => (invalid_rows a h).2.1
theorem rdInvalid_b0 (a : Byte) : Statement (.rdInvalid_b0 a) := fun h => (invalid_rows a h).2.2.1
theorem rdInvalid_b1 (a : Byte) : Statement (.rdInvalid_b1 a) := fun h => (invalid_rows a h).2.2.2

theorem writeTxn (bytes : List Byte) : Statement (.writeTxn bytes) := fun _ => (by decide : inRowOf "WRITE_TXN" (.call ⟨0, 0, []⟩) = true)
theorem prepare (len : Nat) : Statement (.prepare len) := fun _ => (by decide : inRowOf "PREPARE" (.call ⟨0, 1, []⟩) = true)
theorem confirm (n : Nat) : Statement (.confirm n) := fun _ => (by decide : inRowOf "CONFIRM" (.call ⟨0, 2, []⟩) = true)
theorem reset : Statement .reset := by unfold Statement; decide
theorem run (step : RunStep) : Statement (.run step) := by
  have h : inRowOf "RUN" (.call ⟨0, 4, []⟩) = true := by decide
  rcases step with t | ⟨lv, t⟩
  · exact fun _ => h
  · cases lv <;> exact fun _ => h

end Sys2Proof.Laws.RowOfMnemonic
end

