-- ==== Sys2Proof/Tests/Slice0.lean ====
section
/-! SUPPORT. Tests of the model: smoke tests of WellFormed, decode against words written out from R74 and R75, single steps
against the vectors of 95_test_vectors.md, and for every statement with hypotheses a witness that meets them. -/

namespace Sys2Proof.Tests

open Sys2Proof.Machine Sys2Proof.Claims

/-! ### Well-formedness: an address that names a register is no invalid access (R77) -/

theorem test_illFormed_wrInvalid_b0 : (Instr.wrInvalid_b0 21 0).wellFormed = false := by decide
theorem test_illFormed_wrInvalid_b1 : (Instr.wrInvalid_b1 0 0).wellFormed = false := by decide
theorem test_illFormed_rdInvalid_b0 : (Instr.rdInvalid_b0 21).wellFormed = false := by decide
theorem test_illFormed_rdInvalid_b1 : (Instr.rdInvalid_b1 0).wellFormed = false := by decide

/-! ### Decode: words written out from R74 (dir, bank_mode, addr) and the map of R75 -/

theorem test_decode_writes_interleaved_0_to_10 :
    [0b0000000000#10, 0b0000000001#10, 0b0000000010#10, 0b0000000011#10, 0b0000000100#10, 0b0000000101#10, 0b0000000110#10, 0b0000000111#10, 0b0000001000#10, 0b0000001001#10, 0b0000001010#10].map (decodeKey · 0x5A#8) =
    [.wrIodirA_b0 0x5A, .wrIodirB_b0 0x5A, .wrIpolA_b0 0x5A, .wrIpolB_b0 0x5A, .wrGpintenA_b0 0x5A, .wrGpintenB_b0 0x5A, .wrDefvalA_b0 0x5A, .wrDefvalB_b0 0x5A, .wrIntconA_b0 0x5A, .wrIntconB_b0 0x5A, .wrIoconA_b0 0x5A] := by decide
theorem test_decode_writes_interleaved_11_to_21 :
    [0b0000001011#10, 0b0000001100#10, 0b0000001101#10, 0b0000001110#10, 0b0000001111#10, 0b0000010000#10, 0b0000010001#10, 0b0000010010#10, 0b0000010011#10, 0b0000010100#10, 0b0000010101#10].map (decodeKey · 0x5A#8) =
    [.wrIoconB_b0 0x5A, .wrGppuA_b0 0x5A, .wrGppuB_b0 0x5A, .wrIntfA_b0 0x5A, .wrIntfB_b0 0x5A, .wrIntcapA_b0 0x5A, .wrIntcapB_b0 0x5A, .wrGpioA_b0 0x5A, .wrGpioB_b0 0x5A, .wrOlatA_b0 0x5A, .wrOlatB_b0 0x5A] := by decide
theorem test_decode_writes_grouped_0_to_10 :
    [0b0100000000#10, 0b0100000001#10, 0b0100000010#10, 0b0100000011#10, 0b0100000100#10, 0b0100000101#10, 0b0100000110#10, 0b0100000111#10, 0b0100001000#10, 0b0100001001#10, 0b0100001010#10].map (decodeKey · 0x5A#8) =
    [.wrIodirA_b1 0x5A, .wrIpolA_b1 0x5A, .wrGpintenA_b1 0x5A, .wrDefvalA_b1 0x5A, .wrIntconA_b1 0x5A, .wrIoconA_b1 0x5A, .wrGppuA_b1 0x5A, .wrIntfA_b1 0x5A, .wrIntcapA_b1 0x5A, .wrGpioA_b1 0x5A, .wrOlatA_b1 0x5A] := by decide
theorem test_decode_writes_grouped_11_to_21 :
    [0b0100001011#10, 0b0100001100#10, 0b0100001101#10, 0b0100001110#10, 0b0100001111#10, 0b0100010000#10, 0b0100010001#10, 0b0100010010#10, 0b0100010011#10, 0b0100010100#10, 0b0100010101#10].map (decodeKey · 0x5A#8) =
    [.wrIodirB_b1 0x5A, .wrIpolB_b1 0x5A, .wrGpintenB_b1 0x5A, .wrDefvalB_b1 0x5A, .wrIntconB_b1 0x5A, .wrIoconB_b1 0x5A, .wrGppuB_b1 0x5A, .wrIntfB_b1 0x5A, .wrIntcapB_b1 0x5A, .wrGpioB_b1 0x5A, .wrOlatB_b1 0x5A] := by decide
theorem test_decode_reads_interleaved_0_to_10 :
    [0b1000000000#10, 0b1000000001#10, 0b1000000010#10, 0b1000000011#10, 0b1000000100#10, 0b1000000101#10, 0b1000000110#10, 0b1000000111#10, 0b1000001000#10, 0b1000001001#10, 0b1000001010#10].map (decodeKey · 0x5A#8) =
    [.rdIodirA_b0, .rdIodirB_b0, .rdIpolA_b0, .rdIpolB_b0, .rdGpintenA_b0, .rdGpintenB_b0, .rdDefvalA_b0, .rdDefvalB_b0, .rdIntconA_b0, .rdIntconB_b0, .rdIoconA_b0] := by decide
theorem test_decode_reads_interleaved_11_to_21 :
    [0b1000001011#10, 0b1000001100#10, 0b1000001101#10, 0b1000001110#10, 0b1000001111#10, 0b1000010000#10, 0b1000010001#10, 0b1000010010#10, 0b1000010011#10, 0b1000010100#10, 0b1000010101#10].map (decodeKey · 0x5A#8) =
    [.rdIoconB_b0, .rdGppuA_b0, .rdGppuB_b0, .rdIntfA_b0, .rdIntfB_b0, .rdIntcapA_b0, .rdIntcapB_b0, .rdGpioA_b0, .rdGpioB_b0, .rdOlatA_b0, .rdOlatB_b0] := by decide
theorem test_decode_reads_grouped_0_to_10 :
    [0b1100000000#10, 0b1100000001#10, 0b1100000010#10, 0b1100000011#10, 0b1100000100#10, 0b1100000101#10, 0b1100000110#10, 0b1100000111#10, 0b1100001000#10, 0b1100001001#10, 0b1100001010#10].map (decodeKey · 0x5A#8) =
    [.rdIodirA_b1, .rdIpolA_b1, .rdGpintenA_b1, .rdDefvalA_b1, .rdIntconA_b1, .rdIoconA_b1, .rdGppuA_b1, .rdIntfA_b1, .rdIntcapA_b1, .rdGpioA_b1, .rdOlatA_b1] := by decide
theorem test_decode_reads_grouped_11_to_21 :
    [0b1100001011#10, 0b1100001100#10, 0b1100001101#10, 0b1100001110#10, 0b1100001111#10, 0b1100010000#10, 0b1100010001#10, 0b1100010010#10, 0b1100010011#10, 0b1100010100#10, 0b1100010101#10].map (decodeKey · 0x5A#8) =
    [.rdIodirB_b1, .rdIpolB_b1, .rdGpintenB_b1, .rdDefvalB_b1, .rdIntconB_b1, .rdIoconB_b1, .rdGppuB_b1, .rdIntfB_b1, .rdIntcapB_b1, .rdGpioB_b1, .rdOlatB_b1] := by decide
theorem test_decode_invalid :
    [0b0000010110#10, 0b0111111111#10, 0b1000010111#10, 0b1100010110#10].map (decodeKey · 0x5A#8) =
    [.wrInvalid_b0 22 0x5A, .wrInvalid_b1 255 0x5A, .rdInvalid_b0 23, .rdInvalid_b1 22] := by decide
/-- Entry codes of R71, in bits 2 to 0 of the header. -/
theorem test_decode_calls :
    [0b000#8, 0b001#8, 0b010#8, 0b011#8, 0b100#8, 0b101#8].map (fun h => (decode (.call ⟨9, h, []⟩)).toOption) =
    [some (.writeTxn []), some (.prepare 0), some (.confirm 0), some .reset, some (.run (.change .low 9)), none] := by decide
theorem test_decode_operands :
    decode (.call ⟨9, 0, [0x12, 0x05]⟩) = .ok (.writeTxn [0x12, 0x05]) ∧ decode (.call ⟨9, 0, [256]⟩) = .error (.wordNotAByte 256) ∧
    decode (.call ⟨9, 1, [300]⟩) = .ok (.prepare 300) ∧ decode (.call ⟨9, 2, [1, 2]⟩) = .error .tooManyOperands ∧
    decode (.call ⟨9, 4, [1]⟩) = .ok (.run (.change .high 9)) ∧ decode (.call ⟨9, 4, [3]⟩) = .error (.noSuchRunStep 3) := by
  refine ⟨rfl, rfl, rfl, rfl, rfl, rfl⟩

/-! ### Table rows from the reset state -/

/-- A field of the state an operation answers. -/
def answer {α : Type} (r : Result) (f : State → α) : Option α :=
  match r with
  | .next s => some (f s)
  | .fault _ => none
  | .refused _ => none

/-- Every REGACCESS row runs as the first operation after reset. -/
theorem test_every_access_row_runs :
    (accessRows.all fun r => (answer (step (State.reset.withFetchWord 16 r.pattern.toNat)) fun _ => ()).isSome) = true := by
  decide
/-- So does every ENTRY row. -/
theorem test_every_entry_row_runs :
    (entryRows.all fun r => (answer (step (State.reset.withFetchWord 8 r.2)) fun _ => ()).isSome) = true := by decide

/-! ### Addresses and modes: the tables of 95_test_vectors.md 2.1 and 2.2 -/

theorem test_decode_address :
    [0x00#8, 0x05#8, 0x0B#8, 0x12#8, 0x15#8, 0x16#8].map (decodeAddress · false) =
      [some (.IODIR, .A), some (.GPINTEN, .B), some (.IOCON, .B), some (.GPIO, .A), some (.OLAT, .B), none] ∧
    [0x00#8, 0x05#8, 0x0B#8, 0x12#8, 0x15#8, 0x16#8].map (decodeAddress · true) =
      [some (.IODIR, .A), some (.IOCON, .A), some (.IODIR, .B), some (.INTF, .B), some (.OLAT, .B), none] := by decide
theorem test_advance :
    [0x00#8, 0x15#8, 0x16#8, 0xFF#8].map (advance · .toggle) = [0x01#8, 0x14#8, 0x17#8, 0xFE#8] ∧
    [0x00#8, 0x15#8, 0x16#8, 0x2B#8, 0xFE#8, 0xFF#8].map (advance · .cycle) =
      [0x01#8, 0x00#8, 0x01#8, 0x00#8, 0x0D#8, 0x0E#8] ∧ advance 5 .fixed = 5 := by decide

/-! ### Single steps -/

/-- A write transaction under way: the pointer at `a`, data bytes to come. -/
def writing (a : Byte) (data : List Byte) (s : State) : State :=
  { s with ptr := a, txn := Txn.ofBytes data, watching := false }

/-- A prepare under way from `a`, with `more` bytes after the next. -/
def reading (a : Byte) (more : Nat) (s : State) : State := { s with ptr := a, txn := .read a more [], watching := false }

/-- The reset state in the grouped layout, and in Cycle mode (D18). -/
def grouped : State := { State.reset with bankMode := true }
def cycling : State := { State.reset with sequentialMode := true }

/-- The reset state with every pin an Output. -/
def allOutput : State := { State.reset with pins := Vector.replicate 16 ⟨.output, false, false⟩ }

/-- R125, the first byte of vector L1-1. -/
theorem test_write_iodir :
    answer (step (writing 0x00 [0x0F, 0xF0] State.reset)) (fun t => (iodirByte .A t, iodirByte .B t, t.ptr, t.txn)) =
      some (0x0F, 0xFF, 0x01, .write 0xF0 []) := by decide
/-- Vector W-4: the value already held is not pushed. -/
theorem test_write_iodir_same : answer (step (writing 0x00 [0xFF] State.reset)) (fun t => (t.trace, t.ptr)) = some ([], 0x01) := by decide
/-- Vector W-5. -/
theorem test_write_gppu :
    answer (step (writing 0x0D [0x80] State.reset)) (fun t => (t.trace, gppuByte .B t, t.ptr)) =
      some ([.configure 15 ⟨.input, true, false⟩], 0x80, 0x0C) := by decide
/-- Vector W-6. -/
theorem test_write_gpio :
    answer (step (writing 0x12 [0x01] State.reset)) (fun t => (t.trace, latchByte .A t, iodirByte .A t, t.ptr)) =
      some ([.configure 0 ⟨.input, false, true⟩], 0x01, 0xFF, 0x13) := by decide
/-- Vector L1-2: OLATB in Cycle mode, the pointer wraps from 21 to 0. -/
theorem test_write_olat :
    answer (step (writing 0x15 [0x01] cycling)) (fun t => (t.trace, t.ptr)) =
      some ([.configure 8 ⟨.input, false, true⟩], 0x00) := by decide
/-- Vectors L1-3c and W-11: the grouped layout and Fixed mode. -/
theorem test_write_grouped :
    answer (step (writing 0x06 [0x01] grouped)) (fun t => (t.trace, t.ptr)) = some ([.configure 0 ⟨.input, true, false⟩], 0x06) ∧
    answer (step (writing 0x14 [0x03] grouped)) (fun t => (latchByte .B t, t.ptr)) = some (0x03, 0x14) := by decide
/-- Vector W-12, its first byte. -/
theorem test_write_invalid :
    answer (step (writing 0x16 [0xAA] State.reset)) (fun t => (t.trace, t.ptr)) =
      some ([.diag (.invalidWrite 0x16 0xAA)], 0x17) := by decide
/-- Vector W-13, its first byte: 43 advances to 0 in Cycle mode. -/
theorem test_write_invalid_cycle : answer (step (writing 0x2B [0x11, 0x22] cycling)) (fun t => t.ptr) = some 0x00 := by decide
/-- Vector P4, its second operation. -/
theorem test_write_iocon :
    answer (step (writing 0x0A [0x20, 0x01] State.reset)) (fun t => (t.halted, t.ptr, t.txn, t.bankMode, t.trace)) =
      some (true, 0x0A, .idle, false, [.fatal ⟨.wr, .IOCON, .A, 0x0A, some 0x20⟩]) := by decide
/-- The table of unimplemented writes after W-18: the addresses of each type in both layouts. -/
theorem test_write_unimplemented_addresses :
    [RegType.IPOL, .GPINTEN, .DEFVAL, .INTCON, .IOCON, .INTF, .INTCAP].map (fun t =>
      [registerAddress false t .A, registerAddress false t .B, registerAddress true t .A, registerAddress true t .B]) =
      [[0x02, 0x03, 0x01, 0x0C], [0x04, 0x05, 0x02, 0x0D], [0x06, 0x07, 0x03, 0x0E], [0x08, 0x09, 0x04, 0x0F],
       [0x0A, 0x0B, 0x05, 0x10], [0x0E, 0x0F, 0x07, 0x12], [0x10, 0x11, 0x08, 0x13]] := by decide
/-- Vector W-18: no step once halted. -/
theorem test_halted : step { State.reset with halted := true, pending := [⟨0, 0, [0, 0]⟩] } = .fault .coreHalted := by rfl
/-- Vector R-1, its last byte: the window is 2 and both bytes are returned. -/
theorem test_read_iodir :
    answer (step { State.reset with txn := .read 0x01 0 [0xFF] }) (fun t => (t.trace, t.rwLen, t.txn, t.ptr)) =
      some ([.returned [0xFF, 0xFF]], 2, .idle, 0x00) := by decide
/-- Vector R-2, its first byte. -/
theorem test_read_gppu :
    answer (step (reading 0x0C 1 { State.reset with pins := State.reset.pins.set 3 ⟨.input, true, false⟩ })) (fun t => t.txn) =
      some (.read 0x0D 0 [0x08]) := by decide
/-- Vector R-10: all Output, no line is sampled. -/
theorem test_read_gpio : answer (step (reading 0x12 0 allOutput)) (fun t => t.trace) = some [.returned [0x00]] := by decide
/-- Vector R-4 with `OLAT_READ = LATCH`. -/
theorem test_read_olat_latch :
    (rdOlatAs .latch .A (reading 0x14 0 { State.reset with pins := Vector.replicate 16 ⟨.input, false, true⟩ })).trace =
      [.returned [0xFF]] := by decide
/-- Vector R-5, its first byte: the diagnostic, and the local pointer moves on. -/
theorem test_read_invalid :
    answer (step (reading 0x16 1 State.reset)) (fun t => (t.trace, t.ptr, t.halted)) =
      some ([.diag (.invalidRead 0x16)], 0x16, false) := by decide
/-- Vector R-6. -/
theorem test_read_ipol :
    answer (step (reading 0x02 0 State.reset)) (fun t => (t.trace, t.ptr, t.rwLen, t.halted)) =
      some ([.fatal ⟨.rd, .IPOL, .A, 0x02, none⟩], 0x02, 0, true) := by decide
/-- Vectors W-1 and W-2. -/
theorem test_write_call :
    answer (exec (.writeTxn []) State.reset) id = some State.reset ∧
    answer (exec (.writeTxn [0x05]) State.reset) (fun t => (t.ptr, t.txn, t.trace)) = some (0x05, .idle, []) := by decide
/-- Vector R-8. -/
theorem test_prepare_empty : answer (exec (.prepare 0) State.reset) (fun t => (t.trace, t.rwLen)) = some ([.returned []], 0) := by decide
/-- Vectors C-1 to C-4. -/
theorem test_confirm :
    [0, 2, 4, 6].map (fun n => answer (exec (.confirm n) { cycling with ptr := 0x12, rwLen := 4 }) fun t => (t.ptr, t.rwLen, t.trace)) =
      [some (0x12, 0, []), some (0x14, 0, []), some (0x00, 0, []), some (0x00, 0, [.diag (.confirmExcess 6 4)])] := by decide
/-- Vector X-1. -/
theorem test_reset :
    answer (exec .reset { allOutput with ptr := 9, bankMode := true, sequentialMode := true, rwLen := 3, rf := .waitHigh 5 })
      (fun t => (t.pins == State.reset.pins, t.ptr, t.bankMode, t.sequentialMode, t.rwLen, t.rf)) =
      some (true, 0, false, false, 0, .waitHigh 5) := by decide
/-- Vectors X-3, its low, and X-6. -/
theorem test_line_change :
    answer (exec (.run (.change .low 100)) State.reset) (fun t => (t.rf, t.line)) = some (.waitHigh 100, .low) ∧
    answer (exec (.run (.change .high 50)) { State.reset with line := .low }) (fun t => (t.rf, t.trace)) = some (.waitLow, []) := by decide
/-- R245: the call of a bus transaction loses a recorded low instant. -/
theorem test_monitor_dropped :
    answer (step { State.reset with rf := .waitHigh 100, line := .low, pending := [⟨120, 0, [0x00, 0x00]⟩] })
      (fun t => (t.rf, t.watching, t.txn, t.now)) = some (.waitLow, false, .write 0x00 [], 120) := by decide

/-! ### Witnesses: for each statement with hypotheses, a state and operands that meet them -/

theorem witness_DecodeOfEncodeIsIdentity :
    (Instr.wrInvalid_b0 22 0).wellFormed = true ∧ (Instr.rdInvalid_b1 255).wellFormed = true ∧ (Instr.writeTxn [1, 2]).wellFormed = true := by decide
theorem witness_EncodeOfDecodedKeyIsKey : (0x1FF#10).getLsbD 9 = false ∧ (0x200#10).getLsbD 9 = true := by decide
theorem witness_DecodedOperationsAreWellFormed : decode (.access 0x016#10 7) = .ok (.wrInvalid_b0 0x16 7) := by rfl
theorem witness_OtherEntryCodesAreRefused : 5 ≤ (5#8).toNat % 8 ∧ 5 ≤ (7#8).toNat % 8 := by decide
theorem witness_ManyAdvances : (21#8).toNat ≤ 21 ∧ (0#8).toNat ≤ 21 := by decide
theorem witness_IodirWriteSetsDirections : State.reset.halted = false := rfl
theorem witness_GppuWriteSetsPullUps : grouped.halted = false := rfl
theorem witness_GpioAndOlatWritesSetLatches : (RegType.OLAT = .GPIO ∨ RegType.OLAT = .OLAT) ∧ State.reset.halted = false := ⟨.inr rfl, rfl⟩
theorem witness_InvalidWriteOnlyReports : (writing 0x16 [1] State.reset).halted = false ∧ 22 ≤ (0x16#8).toNat := ⟨rfl, by decide⟩
theorem witness_UnimplementedWriteIsFatal : RegType.IOCON.implemented = false ∧ State.reset.halted = false := ⟨rfl, rfl⟩
theorem witness_ImplementedWritesPushChangedPins : RegType.OLAT.implemented = true ∧ grouped.halted = false := ⟨rfl, rfl⟩
/-- A byte after which the pointer advances, and one after which it does not. -/
theorem witness_PointerAdvancesUnlessFatal :
    (Instr.wrInvalid_b0 0x16 1).kind = .writeAccess ∧
    answer (exec (.wrInvalid_b0 0x16 1) (writing 0x16 [1] State.reset)) (fun t => t.halted) = some false ∧
    (Instr.wrIpolA_b0 1).kind = .writeAccess ∧
    answer (exec (.wrIpolA_b0 1) (writing 0x02 [1] State.reset)) (fun t => t.halted) = some true := by decide
theorem witness_RepeatedWriteChangesNothing :
    RegType.IODIR.implemented = true ∧ ∃ t, exec (Instr.wr false .IODIR .A 0x0F) State.reset = .next t := ⟨rfl, _, rfl⟩
theorem witness_IodirReadGivesDirections : (reading 0 0 State.reset).halted = false := rfl
theorem witness_GppuReadGivesPullUps : (reading 0x0C 1 State.reset).halted = false := rfl
theorem witness_GpioReadGivesLatchesAndLines : (reading 0x12 0 allOutput).halted = false := rfl
theorem witness_InvalidReadReportsAndGivesSomeByte : (reading 0xFF 0 State.reset).halted = false ∧ 22 ≤ (0xFF#8).toNat := ⟨rfl, by decide⟩
theorem witness_UnimplementedReadIsFatal : RegType.INTCAP.implemented = false ∧ (reading 0x10 0 State.reset).halted = false := ⟨rfl, rfl⟩
/-- The last byte of a prepare, and one before it. -/
theorem witness_ReadsWriteNoRegister :
    Instr.rdIodirA_b0.kind = .readAccess ∧ (∃ t, exec .rdIodirA_b0 (reading 0 1 State.reset) = .next t) ∧
    answer (exec .rdIodirA_b0 (reading 0 0 State.reset)) (fun t => t.rwLen) = some 1 := ⟨rfl, ⟨_, rfl⟩, by decide⟩
/-- The two clauses of a prepare under way, at their boundary. -/
theorem witness_Delivers : (reading 0 1 State.reset).txn = .read 0 (0 + 1) [] ∧ (reading 0 0 State.reset).txn = .read 0 0 [] := ⟨rfl, rfl⟩
theorem witness_WrittenBytesAreReadBack :
    (∃ t, exec (Instr.wr false .IODIR .A 0x0F) State.reset = .next t) ∧ (∃ t, exec (Instr.wr true .GPPU .B 0x81) State.reset = .next t) ∧
    ∃ t, exec (Instr.wr false .GPIO .A 0x01) allOutput = .next t ∧ (t.pins[pinOf .A 0]).dir = .output := ⟨⟨_, rfl⟩, ⟨_, rfl⟩, _, rfl, by decide⟩
theorem witness_GpioReadIgnoresLatchesOfInputs :
    (State.reset.draws = { State.reset with pins := Vector.replicate 16 ⟨.input, true, true⟩ }.draws) ∧
    (∀ i : Fin 16, (State.reset.pins[i]).dir = ({ State.reset with pins := Vector.replicate 16 ⟨.input, true, true⟩ }.pins[i]).dir) ∧
    ∀ i : Fin 16, (State.reset.pins[i]).dir = .output →
      (State.reset.pins[i]).lat = ({ State.reset with pins := Vector.replicate 16 ⟨.input, true, true⟩ }.pins[i]).lat := by decide
theorem witness_WriteCallSetsPointer : State.reset.halted = false := rfl
/-- A write transaction of two data bytes, and the empty one. -/
theorem witness_WriteTransactionRunsAsPseudocode :
    State.reset.halted = false ∧ State.reset.txn = .idle ∧
    decode (.call { (⟨3, 0, [0, 0x0F, 0xF0]⟩ : Call) with time := max 0 3 }) = .ok (.writeTxn [0, 0x0F, 0xF0]) ∧
    decode (.call { (⟨3, 0, []⟩ : Call) with time := max 0 3 }) = .ok (.writeTxn []) := ⟨rfl, rfl, rfl, rfl⟩
theorem witness_PrepareCallStartsAtPointer : State.reset.halted = false := rfl
theorem witness_PrepareRunsAsPseudocode :
    State.reset.halted = false ∧ State.reset.txn = .idle ∧
    decode (.call { (⟨3, 1, [4]⟩ : Call) with time := max 0 3 }) = .ok (.prepare 4) ∧
    decode (.call { (⟨3, 1, [0]⟩ : Call) with time := max 0 3 }) = .ok (.prepare 0) := ⟨rfl, rfl, rfl, rfl⟩
theorem witness_PrepareWritesOnlyTheWindow : cycling.halted = false := rfl
/-- Both sides of the window, at its edge. -/
theorem witness_ConfirmAdvancesWithinWindow :
    { State.reset with rwLen := 4 }.halted = false ∧ 4 ≤ { State.reset with rwLen := 4 }.rwLen ∧ { State.reset with rwLen := 4 }.rwLen < 5 := by decide
theorem witness_ConfirmRetracesThePrepare : State.reset.halted = false ∧ (prepareTransaction 2 State.reset).halted = false ∧ 1 ≤ 2 := by decide
theorem witness_ResetRestoresDefaultsAndPushesAll : allOutput.halted = false := rfl
theorem witness_MonitorEntryStartsWaiting :
    State.reset.halted = false ∧ State.reset.line = .high ∧ { State.reset with line := .low }.halted = false ∧
    { State.reset with line := .low }.line = .low := ⟨rfl, rfl, rfl, rfl⟩
/-- Both filter states; a low of no length at all is short unless `T_RST_MIN` is 0, and one of length `T_RST_MIN` is not. -/
theorem witness_MonitorFollowsTheLine :
    State.reset.halted = false ∧ State.reset.watching = true ∧ State.reset.rf = .waitLow ∧
    { State.reset with rf := .waitHigh 100 }.watching = true ∧ { State.reset with rf := .waitHigh 100 }.rf = .waitHigh 100 ∧
    Config.tRstMin ≤ (100 + Config.tRstMin) - 100 ∧
    (1 ≤ Config.tRstMin → (100 + (Config.tRstMin - 1)) - 100 < Config.tRstMin) := by
  refine ⟨rfl, rfl, rfl, rfl, rfl, ?_, ?_⟩ <;> omega
theorem witness_DroppedMonitorSeesNothing : (writing 0 [] State.reset).halted = false ∧ (writing 0 [] State.reset).watching = false := ⟨rfl, rfl⟩
theorem witness_LowPulseResetsIfLongEnough :
    State.reset.halted = false ∧ State.reset.txn = .idle ∧ State.reset.watching = true ∧ State.reset.rf = .waitLow ∧
    State.reset.now ≤ 100 ∧ 100 ≤ 100 + Config.tRstMin ∧ Config.tRstMin ≤ (100 + Config.tRstMin) - 100 ∧
    (1 ≤ Config.tRstMin → 100 ≤ 100 + (Config.tRstMin - 1) ∧ (100 + (Config.tRstMin - 1)) - 100 < Config.tRstMin) ∧
    { State.reset with pending := [⟨100, 4, [0]⟩, ⟨100 + Config.tRstMin, 4, [1]⟩] }.pending =
      [⟨100, 4, [0]⟩, ⟨100 + Config.tRstMin, 4, [1]⟩] := by
  refine ⟨rfl, rfl, rfl, rfl, Nat.zero_le _, Nat.le_add_right _ _, ?_, ?_, rfl⟩ <;> omega
theorem witness_HaltedCoreHasNoStep : { State.reset with halted := true }.halted = true := rfl
theorem witness_LiveCoreRunsEveryOperation : State.reset.halted = false := rfl
/-- A write, a prepare, a call and nothing to do. -/
theorem witness_StepRunsTheDecodedOperation :
    (writing 0 [1, 2] State.reset).txn = .write 1 [2] ∧ (reading 0 3 State.reset).txn = .read 0 3 [] ∧
    decode (.call { (⟨0, 3, []⟩ : Call) with time := max 0 0 }) = .ok .reset ∧ State.reset.txn = .idle ∧ State.reset.pending = [] ∧
    (writing 0 [1, 2] State.reset).halted = false ∧ (reading 0 3 State.reset).halted = false ∧ State.reset.halted = false := ⟨rfl, rfl, rfl, rfl, rfl, rfl, rfl, rfl⟩
theorem witness_FatalDataByteStopsTheCore :
    (writing 0x0A [0x20, 0x01] State.reset).halted = false ∧ (writing 0x0A [0x20, 0x01] State.reset).txn = .write 0x20 [0x01] ∧
    decodeAddress 0x0A false = some (.IOCON, .A) ∧ RegType.IOCON.implemented = false := by decide
theorem witness_StepKeepsInvariant :
    (State.mk State.reset.pins 0 false false 0 .waitLow false .idle true .high 0 [⟨0, 3, []⟩] 0 []).Inv ∧
    ∃ t, step { State.reset with pending := [⟨0, 3, []⟩] } = .next t :=
  ⟨⟨by simp, by simp, by simp, by simp, by simp, by simp⟩, _, rfl⟩
theorem witness_OnlyResetWritesFlags :
    (∃ t, exec (.confirm 1) grouped = .next t) ∧ (Instr.confirm 1 ≠ .reset) ∧ (∀ st, Instr.confirm 1 ≠ .run st) ∧
    ∃ t, step (writing 0 [1] grouped) = .next t := ⟨⟨_, rfl⟩, by decide, by simp, _, rfl⟩
theorem witness_ModeStaysToggleAfterReset :
    State.reset.bankMode = false ∧ State.reset.sequentialMode = false ∧ ∃ t, runSteps 1 (writing 0 [1] State.reset) = .next t := ⟨rfl, rfl, _, rfl⟩
theorem witness_OnlyWritesAndResetsChangePins :
    (∃ t, exec (.prepare 2) allOutput = .next t) ∧ (Instr.prepare 2).kind ≠ .writeAccess ∧ (Instr.prepare 2).kind ≠ .reset ∧
    (Instr.prepare 2).kind ≠ .run := ⟨⟨_, rfl⟩, by decide, by decide, by decide⟩
theorem witness_OutputIsOnlyAppended : ∃ t, step (writing 0x16 [1] State.reset) = .next t := ⟨_, rfl⟩
/-- A transaction with a byte to come, and one that ends. -/
theorem witness_TransactionIsNotInterrupted :
    (writing 0 [1, 2] State.reset).txn ≠ .idle ∧ answer (step (writing 0 [1, 2] State.reset)) (fun t => t.txn) = some (.write 2 []) ∧
    answer (step (writing 0 [1] State.reset)) (fun t => t.txn) = some .idle := by decide
/-- Each of the calls the two clauses name. -/
theorem witness_BusTransactionDropsTheMonitor :
    decode (.call { (⟨3, 0, [0, 1]⟩ : Call) with time := max 0 3 }) = .ok (.writeTxn [0, 1]) ∧
    decode (.call { (⟨3, 1, [2]⟩ : Call) with time := max 0 3 }) = .ok (.prepare 2) ∧
    decode (.call { (⟨3, 2, [1]⟩ : Call) with time := max 0 3 }) = .ok (.confirm 1) ∧
    (∃ t, step { State.reset with rf := .waitHigh 2, pending := [⟨3, 0, [0, 1]⟩] } = .next t) ∧
    ∃ t, step { State.reset with rf := .waitHigh 2, pending := [⟨3, 2, [1]⟩] } = .next t := ⟨rfl, rfl, rfl, ⟨_, rfl⟩, _, rfl⟩
theorem witness_ClockAndDrawsNeverGoBack : ∃ t, step { State.reset with pending := [⟨7, 3, []⟩] } = .next t := ⟨_, rfl⟩

end Sys2Proof.Tests
end

section
/-! SUPPORT. The address mode of the two flags (R104): one equation per mode, and O10 from them. -/

namespace Sys2Proof.Machine

/-- With `sequential_mode` set, `bank_mode` does not matter (R104, "regardless of bank_mode"). -/
@[simp] theorem modeOf_sequential (bankMode : Bool) : modeOf bankMode true = .cycle := rfl

@[simp] theorem modeOf_bank_not_sequential : modeOf true false = .fixed := rfl

@[simp] theorem modeOf_not_bank_not_sequential : modeOf false false = .toggle := rfl

/-- Settles O10: the rows of R104, one equation each. -/
theorem modeOfFlags : Obligations.ModeOfFlags :=
  ⟨modeOf_not_bank_not_sequential, modeOf_bank_not_sequential, modeOf_sequential⟩

end Sys2Proof.Machine
end

section
/-! SUPPORT. A write of an implemented register (R124 to R128, R136): where it stands, and once for every such write what it
changes, pushes and leaves. -/

namespace Sys2Proof.Machine

open Sys2Proof.Claims

/-! ### Where the writes stand -/

/-- The address of a register leads to it (R102). -/
@[simp] theorem decodeAddress_registerAddress (m : Bool) (ty : RegType) (b : Bank) :
    decodeAddress (registerAddress m ty b) m = some (ty, b) := by
  cases m <;> cases ty <;> cases b <;> rfl

@[simp] theorem decodeWrite_registerAddress (m : Bool) (ty : RegType) (b : Bank) (v : Byte) :
    decodeWrite (registerAddress m ty b) m v = Instr.wr m ty b v := by
  simp [decodeWrite]

theorem writtenAt_registerAddress (ty : RegType) :
    WrittenAt ty (registerAddress false ty .A) (registerAddress false ty .B)
      (registerAddress true ty .A) (registerAddress true ty .B) := by
  simp [WrittenAt]

theorem decodeWrite_invalid {a : Byte} (m : Bool) (v : Byte) (h : 22 ≤ a.toNat) :
    decodeWrite a m v = if m then .wrInvalid_b1 a v else .wrInvalid_b0 a v := by
  simp [decodeWrite, decodeAddress_invalid a m (decide_eq_true h)]

/-! ### What a write of a bank does -/

theorem bankPins_nodup (b : Bank) : (bankPins b).Nodup := by cases b <;> decide

theorem mapBank_get_of_ne {b : Bank} (f : Fin 8 → Pin → Pin) (pins : Vector Pin 16) {i : Fin 16} (h : bankOf i ≠ b) :
    (mapBank b f pins)[i] = pins[i] :=
  (mapBank_get b f pins i i.isLt).trans (if_neg h)

/-- Outside the bank no record changes, so the pins of the bank that are pushed are all the pins that changed. -/
theorem changedPins_mapBank_perm (b : Bank) (f : Fin 8 → Pin → Pin) (pins : Vector Pin 16) :
    (changedPins b pins (mapBank b f pins)).Perm
      ((List.finRange 16).filter fun i => decide ((mapBank b f pins)[i] ≠ pins[i])) := by
  refine (List.perm_ext_iff_of_nodup ((bankPins_nodup b).filter _) ((List.nodup_finRange 16).filter _)).2 fun i => ?_
  rw [← changedPins, mem_changedPins, List.mem_filter, decide_eq_true_iff]
  constructor
  · rintro ⟨-, hne⟩
    exact ⟨List.mem_finRange i, hne.symm⟩
  · rintro ⟨-, hne⟩
    exact ⟨not_imp_comm.1 (mapBank_get_of_ne f pins) hne, hne.symm⟩

theorem pushesChanges_writeBank (b : Bank) (f : Fin 8 → Pin → Pin) (s : State) :
    PushesChanges s (advancePtr (writeBank b f s)) := by
  simp only [PushesChanges, advancePtr_pins, writeBank_pins, advancePtr_trace, writeBank_trace]
  exact ⟨_, (arrange_perm _ _).trans (changedPins_mapBank_perm b f s.pins), rfl⟩

/-- New records, their pushes and the advance leave every other field. The records are a variable here, so that Lean compares
the two states without computing them. -/
theorem advancePtr_pushPins_setPins_frame {l : List (Fin 16)} {x : Vector Pin 16} {s t : State}
    (h : t = advancePtr (pushPins l (s.setPins x))) :
    t = { s with pins := t.pins, ptr := advance s.ptr s.mode, draws := t.draws, trace := t.trace } := by
  subst h; rfl

/-- An operation that writes a bank, in a live state: the records of the bank, the pushes (R136), and the frame with the
advance (R124). -/
theorem exec_of_writeBank {i : Instr} {s : State} {b : Bank} {f : Fin 8 → Pin → Pin} (hs : s.halted = false)
    (h : exec i s = running s (advancePtr (writeBank b f s))) :
    ∃ t, exec i s = .next t ∧
      (∀ n : Fin 16, t.pins[n] = if bankOf n = b then f (laneOf n) s.pins[n] else s.pins[n]) ∧
      PushesChanges s t ∧
      t = { s with pins := t.pins, ptr := advance s.ptr s.mode, draws := t.draws, trace := t.trace } :=
  ⟨_, h.trans (running_live hs), fun n => by simp, pushesChanges_writeBank b f s, advancePtr_pushPins_setPins_frame rfl⟩

/-- Each of the four implemented types is written by some update of its bank's pins (R125 to R128). -/
theorem exec_wr_implemented (s : State) (m : Bool) (b : Bank) (v : Byte) {ty : RegType} (h : ty.implemented = true) :
    ∃ f, exec (Instr.wr m ty b v) s = running s (advancePtr (writeBank b f s)) := by
  cases ty with
  | IODIR => exact ⟨_, exec_wr_iodir s m b v⟩
  | GPPU => exact ⟨_, exec_wr_gppu s m b v⟩
  | GPIO => exact ⟨_, exec_wr_gpio s m b v⟩
  | OLAT => exact ⟨_, exec_wr_olat s m b v⟩
  | IPOL | GPINTEN | DEFVAL | INTCON | IOCON | INTF | INTCAP => cases h

/-- `WrOLAT(b, v) = WrGPIO(b, v)` for the whole operation (R128). -/
theorem exec_wr_olat_eq_gpio (s : State) (m : Bool) (b : Bank) (v : Byte) :
    exec (Instr.wr m .OLAT b v) s = exec (Instr.wr m .GPIO b v) s :=
  (exec_wr_olat s m b v).trans (exec_wr_gpio s m b v).symm

end Sys2Proof.Machine
end

section
/-! SUPPORT. The write path settled: O13 to O17, O19 and O20, from what a write of a bank does. -/

namespace Sys2Proof.Machine

open Sys2Proof.Claims

/-- Settles O13: an IODIR write is a write of its bank that updates `dir`. -/
theorem iodirWriteSetsDirections : Obligations.IodirWriteSetsDirections :=
  ⟨writtenAt_registerAddress .IODIR, fun s m b v hs => exec_of_writeBank hs (exec_wr_iodir s m b v)⟩

/-- Settles O14: a GPPU write is a write of its bank that updates `pu` and does not look at `dir`. -/
theorem gppuWriteSetsPullUps : Obligations.GppuWriteSetsPullUps :=
  ⟨writtenAt_registerAddress .GPPU, fun s m b v hs => exec_of_writeBank hs (exec_wr_gppu s m b v)⟩

/-- Settles O15: a GPIO or OLAT write is a write of its bank that updates `lat` and does not look at `dir`. -/
theorem gpioAndOlatWritesSetLatches : Obligations.GpioAndOlatWritesSetLatches := by
  refine ⟨writtenAt_registerAddress .GPIO, writtenAt_registerAddress .OLAT, fun s m b v ty hty hs => ?_⟩
  obtain rfl | rfl := hty
  · exact exec_of_writeBank hs (exec_wr_gpio s m b v)
  · exact exec_of_writeBank hs (exec_wr_olat s m b v)

/-- Settles O16, by R128. -/
theorem olatWriteIsGpioWrite : Obligations.OlatWriteIsGpioWrite := exec_wr_olat_eq_gpio

/-- Settles O17: an invalid write is the diagnostic and the advance. -/
theorem invalidWriteOnlyReports : Obligations.InvalidWriteOnlyReports :=
  ⟨fun _ v ha => ⟨decodeWrite_invalid false v ha, decodeWrite_invalid true v ha⟩,
    fun _ _ _ hs => ⟨running_live hs, running_live hs⟩⟩

/-- Settles O19: whatever the implemented type, the write is one of its bank. -/
theorem implementedWritesPushChangedPins : Obligations.ImplementedWritesPushChangedPins := by
  intro s m ty b v hty hs
  obtain ⟨f, hf⟩ := exec_wr_implemented s m b v hty
  obtain ⟨t, ht, hpins, hpush, -⟩ := exec_of_writeBank hs hf
  exact ⟨t, ht, hpush, fun i hi => (hpins i).trans (if_neg hi)⟩

/-- Settles O20: of the effects a write operation can have, only the fatal fault halts the core, and only the other two
advance the pointer. -/
theorem pointerAdvancesUnlessFatal : Obligations.PointerAdvancesUnlessFatal := by
  intro s t i hi h
  obtain ⟨hs, he⟩ := effect_of_exec h
  cases he with
  | write b f => simp [hs, State.mode]
  | invalidWrite a v => simp [hs, State.mode]
  | fatal info => simp
  | read _ hk | sample _ _ hk | invalidRead _ _ hk => simp [hi] at hk
  | writeTxn | prepare | confirm | reset | run => cases hi

end Sys2Proof.Machine
end

section
/-! SUPPORT. Addresses, keys and calls (R71, R74, R101 to R103): what each decodes to, and O1, O2 and O4 to O9. -/

namespace Sys2Proof

open Sys2Proof.Machine

/-! ### Addresses -/

/-- An address leads to no register exactly from 22 on (R77). -/
theorem decodeAddress_eq_none (a : Byte) (m : Bool) : decodeAddress a m = none ↔ 22 ≤ a.toNat := by
  refine ⟨fun h => ?_, fun h => decodeAddress_invalid a m (decide_eq_true h)⟩
  have below : ∀ (a : Byte) (m : Bool), a.toNat < 22 → (decodeAddress a m).isSome = true := by decide
  by_contra hlt
  simpa [h] using below a m (not_le.1 hlt)

/-- A layout is a one-to-one naming of the registers by addresses (R102, R103). -/
theorem decodeAddress_eq_some (a : Byte) (m : Bool) (t : RegType) (b : Bank) :
    decodeAddress a m = some (t, b) ↔ a = registerAddress m t b :=
  ⟨fun h => (registerAddress_of_decode h).symm, fun h => h ▸ decodeAddress_registerAddress m t b⟩

theorem registerAddress_grouped_toNat (t : RegType) (b : Bank) :
    (registerAddress true t b).toNat = t.ordinal + 11 * b.num := by cases t <;> cases b <;> rfl

theorem registerAddress_interleaved_toNat (t : RegType) (b : Bank) :
    (registerAddress false t b).toNat = 2 * t.ordinal + b.num := by cases t <;> cases b <;> rfl

/-! ### Keys -/

@[simp] theorem decodeRead_registerAddress (m : Bool) (ty : RegType) (b : Bank) :
    decodeRead (registerAddress m ty b) m = Instr.rd m ty b := by
  simp [decodeRead]

theorem decodeRead_invalid {a : Byte} (m : Bool) (h : 22 ≤ a.toNat) :
    decodeRead a m = if m then .rdInvalid_b1 a else .rdInvalid_b0 a := by
  simp [decodeRead, (decodeAddress_eq_none a m).2 h]

/-- The table's pattern of a register write is the key of its layout and address. -/
theorem encode_wr (m : Bool) (t : RegType) (b : Bank) (v : Byte) :
    encode (Instr.wr m t b v) = .access (accessKey .wr m (registerAddress m t b)) v := by
  cases m <;> cases t <;> cases b <;> rfl

theorem encode_rd (m : Bool) (t : RegType) (b : Bank) :
    encode (Instr.rd m t b) = .access (accessKey .rd m (registerAddress m t b)) 0 := by
  cases m <;> cases t <;> cases b <;> rfl

/-- Decoding a write's address and encoding again gives the key with that address. -/
theorem encode_decodeWrite (a : Byte) (m : Bool) (v : Byte) :
    encode (decodeWrite a m v) = .access (accessKey .wr m a) v := by
  unfold decodeWrite
  split
  case h_1 t b h => rw [encode_wr, registerAddress_of_decode h]
  case h_2 h => cases m <;> rfl

theorem encode_decodeRead (a : Byte) (m : Bool) : encode (decodeRead a m) = .access (accessKey .rd m a) 0 := by
  unfold decodeRead
  split
  case h_1 t b h => rw [encode_rd, registerAddress_of_decode h]
  case h_2 h => cases m <;> rfl

theorem decodeKey_write {key : Key} (h : key.getLsbD 9 = false) (v : Byte) :
    decodeKey key v = decodeWrite (keyAddr key) (keyBankMode key) v := by
  simp only [decodeKey, keyDir, h, Bool.false_eq_true, if_false]

theorem decodeKey_read {key : Key} (h : key.getLsbD 9 = true) (v : Byte) :
    decodeKey key v = decodeRead (keyAddr key) (keyBankMode key) := by
  simp only [decodeKey, keyDir, h, if_true]

theorem wellFormed_wr (m : Bool) (t : RegType) (b : Bank) (v : Byte) : (Instr.wr m t b v).wellFormed = true := by
  cases m <;> cases t <;> cases b <;> rfl

theorem wellFormed_rd (m : Bool) (t : RegType) (b : Bank) : (Instr.rd m t b).wellFormed = true := by
  cases m <;> cases t <;> cases b <;> rfl

/-- An invalid access is decoded only from an address above 21. -/
theorem wellFormed_decodeWrite (a : Byte) (m : Bool) (v : Byte) : (decodeWrite a m v).wellFormed = true := by
  unfold decodeWrite
  split
  case h_1 t b _ => exact wellFormed_wr m t b v
  case h_2 h =>
    have ha : invalidAddress a = true := decide_eq_true ((decodeAddress_eq_none a m).1 h)
    cases m <;> exact ha

theorem wellFormed_decodeRead (a : Byte) (m : Bool) : (decodeRead a m).wellFormed = true := by
  unfold decodeRead
  split
  case h_1 t b _ => exact wellFormed_rd m t b
  case h_2 h =>
    have ha : invalidAddress a = true := decide_eq_true ((decodeAddress_eq_none a m).1 h)
    cases m <;> exact ha

theorem wellFormed_decodeKey (key : Key) (v : Byte) : (decodeKey key v).wellFormed = true := by
  cases h : key.getLsbD 9 with
  | false => rw [decodeKey_write h]; exact wellFormed_decodeWrite ..
  | true => rw [decodeKey_read h]; exact wellFormed_decodeRead ..

/-! ### Calls -/

/-- The words of a payload are its bytes again (R72). -/
theorem payloadOf_map_toNat (bytes : List Byte) : payloadOf (bytes.map BitVec.toNat) = .ok bytes := by
  induction bytes with
  | nil => rfl
  | cons v bytes ih => simp [payloadOf, ih, v.isLt]

/-- A step of `RUN` carries the time of its call (R243). -/
theorem runStepOf_ok {time w : Nat} {st : RunStep} (h : runStepOf time w = .ok st) :
    (∃ lv, st = .change lv time) ∨ st = .entry time := by
  unfold runStepOf at h
  split at h <;> cases h
  · exact .inl ⟨_, rfl⟩
  · exact .inl ⟨_, rfl⟩
  · exact .inr rfl

/-- What a call can decode to: one of the five entry points, a step of the monitor at the call's time (R71). -/
inductive CallDecodes (c : Call) : Instr → Prop
  | writeTxn (bytes : List Byte) : CallDecodes c (.writeTxn bytes)
  | prepare (len : Nat) : CallDecodes c (.prepare len)
  | confirm (n : Nat) : CallDecodes c (.confirm n)
  | reset : CallDecodes c .reset
  | entry : CallDecodes c (.run (.entry c.time))
  | change (lv : Level) : CallDecodes c (.run (.change lv c.time))

theorem callDecodes_of_ok {c : Call} {i : Instr} (h : decodeCall c = .ok i) : CallDecodes c i := by
  unfold decodeCall at h
  split at h
  · split at h <;> cases h
    exact .writeTxn _
  · split at h <;> cases h
    exact .prepare _
  · split at h <;> cases h
    exact .confirm _
  · split at h <;> cases h
    exact .reset
  · split at h
    · split at h <;> cases h
      rename_i st hst
      obtain ⟨lv, rfl⟩ | rfl := runStepOf_ok hst
      · exact .change lv
      · exact .entry
    · cases h
  · cases h

/-! ### The statements -/

/-- Settles O1: a register access has the key of its layout and address, an invalid access the key of its own address, and
a call's operands are packed one word each. -/
theorem decodeOfEncodeIsIdentity : Obligations.DecodeOfEncodeIsIdentity := by
  intro i hi
  cases i with
  | wrInvalid_b0 a v =>
    exact (decode_writeKey false a v).trans (congrArg _ (decodeWrite_invalid false v (of_decide_eq_true hi)))
  | wrInvalid_b1 a v =>
    exact (decode_writeKey true a v).trans (congrArg _ (decodeWrite_invalid true v (of_decide_eq_true hi)))
  | rdInvalid_b0 a =>
    exact (decode_readKey false a 0).trans (congrArg _ (decodeRead_invalid false (of_decide_eq_true hi)))
  | rdInvalid_b1 a =>
    exact (decode_readKey true a 0).trans (congrArg _ (decodeRead_invalid true (of_decide_eq_true hi)))
  | writeTxn bytes => simp [encode, decode, decodeCall, entryCode, payloadOf_map_toNat]
  | run st =>
    match st with
    | .change .low _ => rfl
    | .change .high _ => rfl
    | .entry _ => rfl
  | _ => rfl

/-- Settles O2: a key is made of the direction, layout and address it is taken into. -/
theorem encodeOfDecodedKeyIsKey : Obligations.EncodeOfDecodedKeyIsKey := by
  intro key v
  constructor
  · intro h
    rw [decodeKey_write h, encode_decodeWrite, (accessKey_of_parts key).1 h]
  · intro h
    rw [decodeKey_read h, encode_decodeRead, (accessKey_of_parts key).2 h]

/-- Settles O4: no call has an ill-formed operation, and a key none because its address was decoded. -/
theorem decodedOperationsAreWellFormed : Obligations.DecodedOperationsAreWellFormed := by
  intro f i h
  cases f with
  | access key v =>
    cases h
    exact wellFormed_decodeKey key v
  | call c => cases callDecodes_of_ok h <;> rfl

/-- Settles O5. -/
theorem writtenOutWordsDecode : Obligations.WrittenOutWordsDecode :=
  ⟨fun _ => rfl, fun _ => rfl, fun _ => rfl, fun _ => rfl, fun _ => rfl, fun _ => rfl, rfl, rfl, rfl, rfl, rfl, rfl⟩

/-- Settles O6: the five entry codes below 5 have an arm of the decoder each. -/
theorem otherEntryCodesAreRefused : Obligations.OtherEntryCodesAreRefused := by
  intro c hc
  simp only [decode, decodeCall]
  split
  case h_6 => rfl
  all_goals
    rename_i hcode
    simp only [entryCode] at hcode
    omega

/-- Settles O7. -/
theorem addressesLeadToRegisters : Obligations.AddressesLeadToRegisters := by
  refine ⟨fun a t b => ?_, fun a t b => ?_, decodeAddress_eq_none⟩
  · rw [decodeAddress_eq_some, ← BitVec.toNat_inj, registerAddress_grouped_toNat]
  · rw [decodeAddress_eq_some, ← BitVec.toNat_inj, registerAddress_interleaved_toNat]

/-- Settles O8. -/
theorem eachRegisterHasOneAddress : Obligations.EachRegisterHasOneAddress :=
  fun m t b => ⟨registerAddress m t b, decodeAddress_registerAddress m t b, fun a => (decodeAddress_eq_some a m t b).1⟩

/-- Settles O9, address by address. -/
theorem bankModeChangesAddresses1To20 : Obligations.BankModeChangesAddresses1To20 := by
  unfold Obligations.BankModeChangesAddresses1To20
  decide

end Sys2Proof
end

section
/-! SUPPORT. The opcode table over the keys (R74, R78), and O3: bits 9 and 8 of a key, its direction and layout, select one
of the table's four blocks; within the block the address selects one row. -/

namespace Sys2Proof

/-- The block of the opcode table with the rows of a direction and a layout. -/
def blockOf : AccessDir → Bool → List AccessRow
  | .wr, false => writeRowsInterleaved
  | .wr, true => writeRowsGrouped
  | .rd, false => readRowsInterleaved
  | .rd, true => readRowsGrouped

/-- Every row looks at bits 9 and 8, and has there the direction and the layout of its block. -/
theorem blockOf_highBits (dir : AccessDir) (m : Bool) : ∀ r ∈ blockOf dir m,
    r.mask &&& 0x300#10 = 0x300#10 ∧ r.pattern &&& 0x300#10 = accessKey dir m 0 := by
  cases dir <;> cases m <;> decide

theorem accessKey_highBits (dir : AccessDir) (m : Bool) (a : Byte) :
    accessKey dir m a &&& 0x300#10 = accessKey dir m 0 := by
  revert m a; cases dir <;> decide

theorem accessKey_zero_inj {dir dir' : AccessDir} {m m' : Bool} (h : accessKey dir m 0 = accessKey dir' m' 0) :
    dir = dir' ∧ m = m' := by
  revert h; cases dir <;> cases dir' <;> cases m <;> cases m' <;> decide

/-- No row of another block covers a key. -/
theorem filter_blockOf_other {dir dir' : AccessDir} {m m' : Bool} (a : Byte) (h : ¬(dir = dir' ∧ m = m')) :
    (blockOf dir' m').filter (fun r => r.covers (accessKey dir m a)) = [] := by
  rw [List.filter_eq_nil_iff]
  intro r hr hc
  obtain ⟨hmask, hpattern⟩ := blockOf_highBits dir' m' r hr
  have hcover : accessKey dir m a &&& r.mask = r.pattern := beq_iff_eq.1 hc
  refine h (accessKey_zero_inj ?_)
  rw [← accessKey_highBits dir m a, ← hpattern, ← hcover, BitVec.and_assoc, hmask]

/-- Of the table only the block of its direction and layout matters to a key. -/
theorem filter_accessRows (dir : AccessDir) (m : Bool) (a : Byte) :
    (accessRows.filter fun r => r.covers (accessKey dir m a)) =
      (blockOf dir m).filter fun r => r.covers (accessKey dir m a) := by
  have split : accessRows =
      blockOf .wr false ++ blockOf .wr true ++ blockOf .rd false ++ blockOf .rd true := rfl
  rw [split]
  cases dir <;> cases m <;> simp [List.filter_append, filter_blockOf_other]

/-- Within the block of a write the address selects one row, of the operation it decodes to. -/
theorem filter_block_write (m : Bool) (a : Byte) :
    ((blockOf .wr m).filter fun r => r.covers (accessKey .wr m a)).map AccessRow.mnemonic =
      [(decodeWrite a m 0).mnemonic] := by
  revert a; cases m <;> decide

theorem filter_block_read (m : Bool) (a : Byte) :
    ((blockOf .rd m).filter fun r => r.covers (accessKey .rd m a)).map AccessRow.mnemonic =
      [(decodeRead a m).mnemonic] := by
  revert a; cases m <;> decide

/-- The data byte is no part of the mnemonic. -/
theorem mnemonic_decodeWrite (a : Byte) (m : Bool) (v : Byte) :
    (decodeWrite a m v).mnemonic = (decodeWrite a m 0).mnemonic := by
  unfold decodeWrite
  split
  case h_1 t b _ => cases m <;> cases t <;> cases b <;> rfl
  case h_2 => cases m <;> rfl

/-- Settles O3: a key is taken apart into direction, layout and address. -/
theorem everyKeyIsInOneTableRow : Obligations.EveryKeyIsInOneTableRow := by
  intro key v
  cases h : key.getLsbD 9 with
  | false =>
    rw [decodeKey_write h, mnemonic_decodeWrite, ← filter_block_write, ← filter_accessRows, (accessKey_of_parts key).1 h]
  | true =>
    rw [decodeKey_read h, ← filter_block_read, ← filter_accessRows, (accessKey_of_parts key).2 h]

end Sys2Proof
end

section
/-! SUPPORT. Advances of an address (R105 to R108, R111): O11 and O12. -/

namespace Sys2Proof.Machine

@[simp] theorem advance_fixed (a : Byte) : advance a .fixed = a := rfl

@[simp] theorem advance_cycle_toNat (a : Byte) : (advance a .cycle).toNat = (a.toNat + 1) % 22 := by
  simp only [advance, BitVec.toNat_ofNat]
  omega

/-- Toggle gives the even or odd neighbour (R107). -/
theorem advance_toggle_toNat (a : Byte) :
    (advance a .toggle).toNat = if a.toNat % 2 = 0 then a.toNat + 1 else a.toNat - 1 := by
  revert a; decide

theorem advances_fixed (n : Nat) (a : Byte) : advances .fixed n a = a := by
  induction n with
  | zero => rfl
  | succ n ih => rw [advances_succ, advance_fixed, ih]

/-- Two Toggle advances cancel, so only the parity of their number counts (R111). -/
theorem advances_toggle (n : Nat) (a : Byte) : advances .toggle n a = if n % 2 = 0 then a else a ^^^ 1 := by
  induction n generalizing a with
  | zero => rfl
  | succ n ih =>
    have cancel : a ^^^ 1 ^^^ 1 = a := advance_toggle_toggle a
    rw [advances_succ, ih, show advance a .toggle = a ^^^ 1 from rfl, cancel]
    obtain h | h := Nat.mod_two_eq_zero_or_one n <;> simp [Nat.add_mod, h]

/-- `n` Cycle advances go round the 22 addresses (R111). -/
theorem advances_cycle_toNat (n : Nat) {a : Byte} (ha : a.toNat ≤ 21) :
    (advances .cycle n a).toNat = (a.toNat + n) % 22 := by
  induction n generalizing a with
  | zero => simpa [advances] using (Nat.mod_eq_of_lt (by omega)).symm
  | succ n ih =>
    rw [advances_succ, ih (Nat.le_of_lt_succ (advance_cycle_lt a)), advance_cycle_toNat]
    omega

/-- Settles O11. -/
theorem oneAdvance : Obligations.OneAdvance :=
  fun a => ⟨advance_fixed a, advance_toggle_toNat a, advance_cycle_toNat a⟩

/-- Settles O12. -/
theorem manyAdvances : Obligations.ManyAdvances :=
  fun n a => ⟨advances_fixed n a, advances_toggle n a, advances_cycle_toNat n⟩

end Sys2Proof.Machine
end

section
/-! SUPPORT. A write that is repeated and a write of an unimplemented register (R55, R129 to R135): O18 and O21. -/

namespace Sys2Proof.Machine

open Sys2Proof.Claims

/-! ### Idempotent updates -/

theorem mapBank_mapBank (b : Bank) {f : Fin 8 → Pin → Pin} (hf : ∀ k p, f k (f k p) = f k p) (pins : Vector Pin 16) :
    mapBank b f (mapBank b f pins) = mapBank b f pins := by
  refine Vector.ext fun i hi => ?_
  simp only [mapBank_get]
  split <;> simp [hf]

/-- Where nothing changes nothing is pushed (R136). -/
@[simp] theorem changedPins_self (b : Bank) (pins : Vector Pin 16) : changedPins b pins pins = [] := by
  simp [changedPins]

@[simp] theorem arrange_nil {α : Type} (n : Nat) : arrange n ([] : List α) = [] := rfl

/-- The four implemented types are written by updates that do nothing a second time, whatever the state (R125 to R128). -/
theorem exec_wr_implemented_idempotent (m : Bool) (b : Bank) (v : Byte) {ty : RegType} (h : ty.implemented = true) :
    ∃ f : Fin 8 → Pin → Pin, (∀ k p, f k (f k p) = f k p) ∧
      ∀ s, exec (Instr.wr m ty b v) s = running s (advancePtr (writeBank b f s)) := by
  cases ty with
  | IODIR => refine ⟨_, fun k p => ?_, fun s => exec_wr_iodir s m b v⟩; rfl
  | GPPU => refine ⟨_, fun k p => ?_, fun s => exec_wr_gppu s m b v⟩; rfl
  | GPIO => refine ⟨_, fun k p => ?_, fun s => exec_wr_gpio s m b v⟩; rfl
  | OLAT => refine ⟨_, fun k p => ?_, fun s => exec_wr_olat s m b v⟩; rfl
  | IPOL | GPINTEN | DEFVAL | INTCON | IOCON | INTF | INTCAP => cases h

/-! ### The statements -/

/-- Settles O18: the fault's record names the register's own address in the layout. -/
theorem unimplementedWriteIsFatal : Obligations.UnimplementedWriteIsFatal :=
  ⟨writtenAt_registerAddress .IPOL, writtenAt_registerAddress .GPINTEN, writtenAt_registerAddress .DEFVAL,
    writtenAt_registerAddress .INTCON, writtenAt_registerAddress .IOCON, writtenAt_registerAddress .INTF,
    writtenAt_registerAddress .INTCAP,
    fun s m _ b v hty hs => (exec_wr_unimplemented s m b v hty).trans (running_live hs)⟩

/-- Settles O21: the update is idempotent, so the second write finds no pin to push. -/
theorem repeatedWriteChangesNothing : Obligations.RepeatedWriteChangesNothing := by
  intro s t m ty b v hty h
  obtain ⟨f, hf, hexec⟩ := exec_wr_implemented_idempotent m b v hty
  rw [hexec, running_eq_next] at h
  obtain ⟨hs, rfl⟩ := h
  exact ⟨_, (hexec _).trans (running_live hs), by simp [mapBank_mapBank b hf], by simp [mapBank_mapBank b hf]⟩

end Sys2Proof.Machine
end

section
/-! SUPPORT. The register reads (R150 to R164): where they stand, where a byte read goes, what the bytes are, and O22 to
O30. -/

namespace Sys2Proof.Machine

open Sys2Proof.Claims

/-! ### Where the reads stand and where a byte goes -/

theorem readAt_registerAddress (ty : RegType) :
    ReadAt ty (registerAddress false ty .A) (registerAddress false ty .B)
      (registerAddress true ty .A) (registerAddress true ty .B) := by
  simp [ReadAt]

theorem delivers_deliver (v : Byte) (s : State) : Delivers v s (deliver v s) := by
  constructor
  · intro lptr more buf h
    rw [deliver_more v h]
    rfl
  · intro lptr buf h
    rw [deliver_last v h]
    simp [finishPrepare, State.setRwLen, State.setTxn, State.emit]

theorem setTxn_of_eq {s : State} {txn : Txn} (h : s.txn = txn) : s.setTxn txn = s := by subst h; rfl

/-- A byte handed over changes the transaction and nothing else, unless it is the last one and ends the prepare. -/
theorem deliver_cases (v : Byte) (s : State) :
    (∃ lptr buf, s.txn = .read lptr 0 buf ∧ deliver v s = finishPrepare (buf ++ [v]) s) ∨
      ∃ txn, deliver v s = s.setTxn txn := by
  match h : s.txn with
  | .read lptr 0 buf => exact .inl ⟨lptr, buf, rfl, deliver_last v h⟩
  | .read lptr (more + 1) buf => exact .inr ⟨_, deliver_more v h⟩
  | .idle | .write w rest => exact .inr ⟨_, by rw [setTxn_of_eq h]; simp [deliver, h]⟩

/-- The window is written only with the last byte (R151). -/
theorem deliver_rwLen (v : Byte) (s : State) :
    (deliver v s).rwLen = s.rwLen ∨ ∃ lptr buf, s.txn = .read lptr 0 buf ∧ (deliver v s).rwLen = buf.length + 1 := by
  obtain ⟨lptr, buf, ht, h⟩ | ⟨txn, h⟩ := deliver_cases v s
  · exact .inr ⟨lptr, buf, ht, by simp [h]⟩
  · exact .inl (by simp [h])

/-- An operation that hands over a byte after some output: a next state in which the byte has gone where it goes. -/
theorem exec_of_deliver {i : Instr} {s u : State} {v : Byte} (hs : s.halted = false)
    (h : exec i s = running s (deliver v u)) : exec i s = .next (deliver v u) ∧ Delivers v u (deliver v u) :=
  ⟨h.trans (running_live hs), delivers_deliver v u⟩

/-- An invalid read: the diagnostic, and after it some byte (R156). -/
theorem exec_of_rdInvalid {i : Instr} {s : State} {a : Byte} (hs : s.halted = false)
    (h : exec i s = running s (rdInvalid a s)) : ∃ v t, exec i s = .next t ∧
      Delivers v { s with draws := t.draws, trace := s.trace ++ [.diag (.invalidRead a)] } t := by
  obtain ⟨hnext, hdel⟩ := exec_of_deliver hs h
  refine ⟨Config.invalidByte s.draws, _, hnext, ?_⟩
  rw [deliver_draws]
  exact hdel

/-! ### The bytes -/

theorem getLsbD_iodirByte (b : Bank) (s : State) (k : Fin 8) :
    (iodirByte b s).getLsbD k.val = decide ((s.pins[pinOf b k]).dir = .input) := by
  refine (lane_byteOf _ k).trans ?_
  cases (s.pins[pinOf b k]).dir <;> rfl

theorem getLsbD_gppuByte (b : Bank) (s : State) (k : Fin 8) :
    (gppuByte b s).getLsbD k.val = (s.pins[pinOf b k]).pu := lane_byteOf _ k

theorem getLsbD_latchByte (b : Bank) (s : State) (k : Fin 8) :
    (latchByte b s).getLsbD k.val = (s.pins[pinOf b k]).lat := lane_byteOf _ k

/-- The latch of an Output pin, the line of an Input pin (R155). -/
theorem getLsbD_gpioByte (b : Bank) (s : State) (k : Fin 8) :
    (gpioByte b s).getLsbD k.val =
      if (s.pins[pinOf b k]).dir = .output then (s.pins[pinOf b k]).lat else Config.lineLevel s.draws (pinOf b k) := by
  refine (lane_byteOf _ k).trans ?_
  cases (s.pins[pinOf b k]).dir <;> rfl

theorem inputPins_perm (b : Bank) (s : State) :
    (inputPins b s).Perm ((List.finRange 16).filter fun i => decide (bankOf i = b ∧ (s.pins[i]).dir = .input)) := by
  refine (List.perm_ext_iff_of_nodup ((bankPins_nodup b).filter _) ((List.nodup_finRange 16).filter _)).2 fun i => ?_
  simp [mem_bankPins]

/-! ### The statements -/

/-- Settles O22. -/
theorem iodirReadGivesDirections : Obligations.IodirReadGivesDirections := by
  refine ⟨readAt_registerAddress .IODIR, fun s m b hs => ?_⟩
  obtain ⟨hnext, hdel⟩ := exec_of_deliver hs (exec_rd_iodir s m b)
  exact ⟨_, _, hnext, hdel, getLsbD_iodirByte b s⟩

/-- Settles O23. -/
theorem gppuReadGivesPullUps : Obligations.GppuReadGivesPullUps := by
  refine ⟨readAt_registerAddress .GPPU, fun s m b hs => ?_⟩
  obtain ⟨hnext, hdel⟩ := exec_of_deliver hs (exec_rd_gppu s m b)
  exact ⟨_, _, hnext, hdel, getLsbD_gppuByte b s⟩

/-- Settles O24: the samples are taken in some order of the Input pins of the bank, and the byte joins the buffer after
them. -/
theorem gpioReadGivesLatchesAndLines : Obligations.GpioReadGivesLatchesAndLines := by
  refine ⟨readAt_registerAddress .GPIO, fun s m b hs => ?_⟩
  obtain ⟨hnext, hdel⟩ := exec_of_deliver hs (exec_rd_gpio s m b)
  have horder := (arrange_perm (Config.sampleOrder s.draws) (inputPins b s)).trans (inputPins_perm b s)
  refine ⟨_, _, Config.lineLevel s.draws, _, hnext, horder, ?_, getLsbD_gpioByte b s⟩
  rw [deliver_draws]
  exact hdel

/-- Settles O25: `OLAT_READ` is `GPIO_ALIAS`, and `LATCH` would deliver the latches. -/
theorem olatReadFollowsItsSetting : Obligations.OlatReadFollowsItsSetting :=
  ⟨readAt_registerAddress .OLAT, fun s m b => (exec_rd_olat s m b).trans (exec_rd_gpio s m b).symm,
    fun s b => ⟨latchByte b s, delivers_deliver _ s, getLsbD_latchByte b s⟩⟩

/-- Settles O26: the diagnostic comes before the byte, in either layout. -/
theorem invalidReadReportsAndGivesSomeByte : Obligations.InvalidReadReportsAndGivesSomeByte := by
  refine ⟨fun a ha => ⟨decodeRead_invalid false ha, decodeRead_invalid true ha⟩, fun s a hs => ?_⟩
  exact ⟨exec_of_rdInvalid hs rfl, exec_of_rdInvalid hs rfl⟩

/-- Settles O27: the fault's record names the register's own address in the layout. -/
theorem unimplementedReadIsFatal : Obligations.UnimplementedReadIsFatal :=
  ⟨readAt_registerAddress .IPOL, readAt_registerAddress .GPINTEN, readAt_registerAddress .DEFVAL,
    readAt_registerAddress .INTCON, readAt_registerAddress .IOCON, readAt_registerAddress .INTF,
    readAt_registerAddress .INTCAP,
    fun s m _ b hty hs => (exec_rd_unimplemented s m b hty).trans (running_live hs)⟩

/-- Settles O28: a read is a byte handed over, perhaps after samples or a diagnostic, or the fatal fault. -/
theorem readsWriteNoRegister : Obligations.ReadsWriteNoRegister := by
  intro s t i hi h
  obtain ⟨-, he⟩ := effect_of_exec h
  cases he with
  | read v => simpa using deliver_rwLen v s
  | sample v b => simpa using deliver_rwLen v (sampleLines b s)
  | invalidRead v a => simpa using deliver_rwLen v ((s.diag (.invalidRead a)).drawn)
  | fatal info => simp
  | write _ _ hk | invalidWrite _ _ hk => simp [hi] at hk
  | writeTxn | prepare | confirm | reset | run => cases hi

/-- Settles O29, lane by lane: what a read takes from a pin is what the write of its bank put there. -/
theorem writtenBytesAreReadBack : Obligations.WrittenBytesAreReadBack := by
  intro s t m b v
  refine ⟨fun h => ?_, fun h => ?_, fun ty hty h k hk => ?_⟩
  · rw [exec_wr_iodir, running_eq_next] at h
    obtain ⟨-, rfl⟩ := h
    refine byte_ext fun k => ?_
    simp [iodirByte, wrIodir]
  · rw [exec_wr_gppu, running_eq_next] at h
    obtain ⟨-, rfl⟩ := h
    refine byte_ext fun k => ?_
    simp [gppuByte, wrGppu]
  · have hwr : exec (Instr.wr m ty b v) s = running s (advancePtr (wrGpio b v s)) := by
      obtain rfl | rfl := hty
      · exact exec_wr_gpio s m b v
      · exact exec_wr_olat s m b v
    rw [hwr, running_eq_next] at h
    obtain ⟨-, rfl⟩ := h
    rw [getLsbD_gpioByte, if_pos hk]
    simp [wrGpio, lane]

/-- Settles O30, lane by lane: an Output pin gives its latch, an Input pin its line at the common draw. -/
theorem gpioReadIgnoresLatchesOfInputs : Obligations.GpioReadIgnoresLatchesOfInputs := by
  intro s t b hdraws hdir hlat
  refine byte_ext fun k => ?_
  change (gpioByte b s).getLsbD k.val = (gpioByte b t).getLsbD k.val
  rw [getLsbD_gpioByte, getLsbD_gpioByte, ← hdir, hdraws]
  split
  case isTrue hout => exact hlat _ hout
  case isFalse => rfl

end Sys2Proof.Machine
end

section
/-! SUPPORT. The entry points and the reset monitor (R71, R120, R150, R166, R230, R243): O31, O33, O36, O38 to O43. -/

namespace Sys2Proof.Machine

open Sys2Proof.Claims

/-! ### Reset -/

theorem getElem_replicate_initial (i : Fin 16) : (Vector.replicate 16 Pin.initial)[i] = ⟨.input, false, false⟩ :=
  Vector.getElem_replicate i.isLt

theorem resetValues_resetCore (s : State) : ResetValues (resetCore s) :=
  ⟨getElem_replicate_initial, rfl, rfl, rfl, rfl⟩

/-- All 16 pins are pushed with the reset record, in the order the draw gives (R232). -/
theorem pushesAll_resetCore (s : State) : PushesAll ⟨.input, false, false⟩ s (resetCore s) := by
  refine ⟨_, arrange_perm (Config.pushOrder s.draws) allPins, ?_⟩
  simp only [resetCore_trace, getElem_replicate_initial]

/-- What a reset leaves (R231). The records are a variable here, so that Lean compares the two states without computing
them. -/
theorem resetCore_frame {s t : State} (h : t = resetCore s) :
    t = { s with pins := t.pins, ptr := 0, bankMode := false, sequentialMode := false, rwLen := 0,
                 draws := t.draws, trace := t.trace } := by
  subst h; rfl

/-! ### The monitor -/

/-- The line high again after a low of at least `T_RST_MIN`. -/
theorem endOfLow_long {t0 t : Nat} (s : State) (h : Config.tRstMin ≤ t - t0) :
    endOfLow t0 t s = (resetCore (s.diag (.resetAccepted (t - t0)))).setRf .waitLow := by
  simp [endOfLow, h]

theorem resetValues_endOfLow {t0 t : Nat} (s : State) (h : Config.tRstMin ≤ t - t0) : ResetValues (endOfLow t0 t s) := by
  rw [endOfLow_long s h]
  exact resetValues_resetCore (s.diag (.resetAccepted (t - t0)))

/-- The pulse is reported before the pushes. -/
theorem pushesAll_endOfLow {t0 t : Nat} (s : State) (h : Config.tRstMin ≤ t - t0) :
    PushesAll ⟨.input, false, false⟩ (s.diag (.resetAccepted (t - t0))) (endOfLow t0 t s) := by
  rw [endOfLow_long s h]
  exact pushesAll_resetCore (s.diag (.resetAccepted (t - t0)))

/-- What the reset of an accepted pulse leaves; as in `resetCore_frame` the records are a variable. -/
theorem endOfLow_long_frame {s t : State} {d : Diag} (h : t = (resetCore (s.diag d)).setRf .waitLow) :
    t = { s with pins := t.pins, ptr := 0, bankMode := false, sequentialMode := false, rwLen := 0,
                 rf := .waitLow, draws := t.draws, trace := t.trace } := by
  subst h; rfl

/-- The line high again after a shorter low. -/
theorem endOfLow_short {t0 t : Nat} (s : State) (h : t - t0 < Config.tRstMin) :
    endOfLow t0 t s = (s.diag (.resetShort (t - t0))).setRf .waitLow := by
  simp [endOfLow, not_le.2 h]

theorem lineChange_waitLow_low {s : State} (t : Nat) (hw : s.watching = true) (hrf : s.rf = .waitLow) :
    lineChange .low t s = (s.setLine .low).setRf (.waitHigh t) := by
  simp [lineChange, hw, hrf]

theorem lineChange_waitLow_high {s : State} (t : Nat) (hw : s.watching = true) (hrf : s.rf = .waitLow) :
    lineChange .high t s = s.setLine .high := by
  simp [lineChange, hw, hrf]

theorem lineChange_waitHigh_low {s : State} {t0 : Nat} (t : Nat) (hw : s.watching = true) (hrf : s.rf = .waitHigh t0) :
    lineChange .low t s = s.setLine .low := by
  simp [lineChange, hw, hrf]

theorem lineChange_waitHigh_high {s : State} {t0 : Nat} (t : Nat) (hw : s.watching = true) (hrf : s.rf = .waitHigh t0) :
    lineChange .high t s = endOfLow t0 t (s.setLine .high) := by
  simp [lineChange, hw, hrf]

/-- An entry changes the filter, sets the monitor running, and may take a draw. -/
theorem enterMonitor_frame (time : Nat) (s : State) :
    enterMonitor time s =
      { s with rf := (enterMonitor time s).rf, watching := true, draws := (enterMonitor time s).draws } := by
  cases h : s.line <;> simp [enterMonitor, h, State.setRf, State.setWatching, State.drawn]

/-! ### The statements -/

/-- Settles O31. -/
theorem writeCallSetsPointer : Obligations.WriteCallSetsPointer :=
  fun _ hs => ⟨running_live hs, fun _ => running_live hs, fun _ _ _ => running_live hs⟩

/-- Settles O33. -/
theorem prepareCallStartsAtPointer : Obligations.PrepareCallStartsAtPointer :=
  fun _ hs => ⟨running_live hs, fun _ => running_live hs⟩

theorem confirmRead_within {s : State} {n : Nat} (h : n ≤ s.rwLen) : confirmRead n s = (advancePtrBy n s).setRwLen 0 := by
  simp [confirmRead, Nat.min_eq_left h, not_lt.2 h]

theorem confirmRead_excess {s : State} {n : Nat} (h : s.rwLen < n) :
    confirmRead n s = (advancePtrBy s.rwLen (s.diag (.confirmExcess n s.rwLen))).setRwLen 0 := by
  simp [confirmRead, Nat.min_eq_right h.le, h]

/-- Settles O36. -/
theorem confirmAdvancesWithinWindow : Obligations.ConfirmAdvancesWithinWindow :=
  fun _ _ hs => ⟨fun h => (running_live hs).trans (congrArg _ (confirmRead_within h)),
    fun h => (running_live hs).trans (congrArg _ (confirmRead_excess h))⟩

/-- Settles O38. -/
theorem resetRestoresDefaultsAndPushesAll : Obligations.ResetRestoresDefaultsAndPushesAll :=
  fun s hs => ⟨resetCore s, running_live hs, resetValues_resetCore s, pushesAll_resetCore s, resetCore_frame rfl⟩

/-- Settles O39. -/
theorem resetStateHasSpecValues : Obligations.ResetStateHasSpecValues :=
  ⟨⟨getElem_replicate_initial, rfl, rfl, rfl, rfl⟩, rfl, rfl, rfl⟩

/-- Settles O40: construction is the reset of the reset state. -/
theorem constructionIsOneReset : Obligations.ConstructionIsOneReset :=
  ⟨resetValues_resetCore State.reset, pushesAll_resetCore State.reset, rfl, rfl⟩

/-- Settles O41. -/
theorem monitorEntryStartsWaiting : Obligations.MonitorEntryStartsWaiting := by
  intro s time hs
  constructor
  · intro hline
    exact (running_live hs).trans (congrArg _ (enterMonitor_high time hline))
  · intro hline
    exact ⟨_, running_live hs, enterMonitor_low time hline, enterMonitor_frame time s⟩

/-- Settles O42: the arms of `RUN`, of which only the end of a long enough low resets the core. -/
theorem monitorFollowsTheLine : Obligations.MonitorFollowsTheLine := by
  intro s time t0 hs hw
  have answers : ∀ {lv : Level} {t : State}, lineChange lv time s = t → exec (.run (.change lv time)) s = .next t :=
    fun h => (running_live hs).trans (congrArg _ h)
  refine ⟨fun hrf => ⟨answers (lineChange_waitLow_low time hw hrf), answers (lineChange_waitLow_high time hw hrf)⟩,
    fun hrf => ⟨answers (lineChange_waitHigh_low time hw hrf), fun hshort => ?_, fun hlong => ?_⟩⟩
  · exact answers ((lineChange_waitHigh_high time hw hrf).trans (endOfLow_short _ hshort))
  · exact ⟨_, answers (lineChange_waitHigh_high time hw hrf), resetValues_endOfLow _ hlong, pushesAll_endOfLow _ hlong,
      endOfLow_long_frame (endOfLow_long _ hlong)⟩

/-- Settles O43. -/
theorem droppedMonitorSeesNothing : Obligations.DroppedMonitorSeesNothing :=
  fun _ lv time hs hw => (running_live hs).trans (congrArg _ (lineChange_dropped lv time hw))

end Sys2Proof.Machine
end

section
/-! SUPPORT. What every operation leaves: fields of the entry points, then once for all effects the output, the clock, the
monitor, the flags and the pins; O45, O46 and O53. -/

namespace Sys2Proof.Machine

/-! ### Fields -/

section Fields
variable (s : State)

@[simp] theorem startWrite_pins (bytes : List Byte) : (startWrite bytes s).pins = s.pins := by cases bytes <;> rfl
@[simp] theorem startWrite_bankMode (bytes : List Byte) : (startWrite bytes s).bankMode = s.bankMode := by
  cases bytes <;> rfl
@[simp] theorem startWrite_sequentialMode (bytes : List Byte) : (startWrite bytes s).sequentialMode = s.sequentialMode := by
  cases bytes <;> rfl
@[simp] theorem startWrite_rf (bytes : List Byte) : (startWrite bytes s).rf = s.rf := by cases bytes <;> rfl
@[simp] theorem startWrite_halted (bytes : List Byte) : (startWrite bytes s).halted = s.halted := by cases bytes <;> rfl
@[simp] theorem startWrite_watching (bytes : List Byte) : (startWrite bytes s).watching = s.watching := by
  cases bytes <;> rfl
@[simp] theorem startWrite_line (bytes : List Byte) : (startWrite bytes s).line = s.line := by cases bytes <;> rfl
@[simp] theorem startWrite_now (bytes : List Byte) : (startWrite bytes s).now = s.now := by cases bytes <;> rfl
@[simp] theorem startWrite_pending (bytes : List Byte) : (startWrite bytes s).pending = s.pending := by cases bytes <;> rfl
@[simp] theorem startWrite_draws (bytes : List Byte) : (startWrite bytes s).draws = s.draws := by cases bytes <;> rfl
@[simp] theorem startWrite_trace (bytes : List Byte) : (startWrite bytes s).trace = s.trace := by cases bytes <;> rfl

@[simp] theorem startPrepare_pins (len : Nat) : (startPrepare len s).pins = s.pins := by cases len <;> rfl
@[simp] theorem startPrepare_bankMode (len : Nat) : (startPrepare len s).bankMode = s.bankMode := by cases len <;> rfl
@[simp] theorem startPrepare_sequentialMode (len : Nat) : (startPrepare len s).sequentialMode = s.sequentialMode := by
  cases len <;> rfl
@[simp] theorem startPrepare_rf (len : Nat) : (startPrepare len s).rf = s.rf := by cases len <;> rfl
@[simp] theorem startPrepare_halted (len : Nat) : (startPrepare len s).halted = s.halted := by cases len <;> rfl
@[simp] theorem startPrepare_watching (len : Nat) : (startPrepare len s).watching = s.watching := by cases len <;> rfl
@[simp] theorem startPrepare_line (len : Nat) : (startPrepare len s).line = s.line := by cases len <;> rfl
@[simp] theorem startPrepare_now (len : Nat) : (startPrepare len s).now = s.now := by cases len <;> rfl
@[simp] theorem startPrepare_pending (len : Nat) : (startPrepare len s).pending = s.pending := by cases len <;> rfl
@[simp] theorem startPrepare_draws (len : Nat) : (startPrepare len s).draws = s.draws := by cases len <;> rfl

@[simp] theorem confirmRead_pins (n : Nat) : (confirmRead n s).pins = s.pins := by unfold confirmRead; split <;> rfl
@[simp] theorem confirmRead_bankMode (n : Nat) : (confirmRead n s).bankMode = s.bankMode := by
  unfold confirmRead; split <;> rfl
@[simp] theorem confirmRead_sequentialMode (n : Nat) : (confirmRead n s).sequentialMode = s.sequentialMode := by
  unfold confirmRead; split <;> rfl
@[simp] theorem confirmRead_rf (n : Nat) : (confirmRead n s).rf = s.rf := by unfold confirmRead; split <;> rfl
@[simp] theorem confirmRead_halted (n : Nat) : (confirmRead n s).halted = s.halted := by unfold confirmRead; split <;> rfl
@[simp] theorem confirmRead_watching (n : Nat) : (confirmRead n s).watching = s.watching := by
  unfold confirmRead; split <;> rfl
@[simp] theorem confirmRead_line (n : Nat) : (confirmRead n s).line = s.line := by unfold confirmRead; split <;> rfl
@[simp] theorem confirmRead_txn (n : Nat) : (confirmRead n s).txn = s.txn := by unfold confirmRead; split <;> rfl
@[simp] theorem confirmRead_now (n : Nat) : (confirmRead n s).now = s.now := by unfold confirmRead; split <;> rfl
@[simp] theorem confirmRead_pending (n : Nat) : (confirmRead n s).pending = s.pending := by
  unfold confirmRead; split <;> rfl
@[simp] theorem confirmRead_draws (n : Nat) : (confirmRead n s).draws = s.draws := by unfold confirmRead; split <;> rfl

end Fields

/-! ### The cases of a monitor step -/

/-- Everything a step of the monitor can do (R243): an entry; a change of which only the level is taken; a low recorded; a
short low reported; a long one reported and the core reset. -/
inductive MonitorEffect (s : State) : RunStep → State → Prop
  | entry (time : Nat) : MonitorEffect s (.entry time) (enterMonitor time s)
  | line (lv : Level) (time : Nat) : MonitorEffect s (.change lv time) (s.setLine lv)
  | low (time : Nat) (hw : s.watching = true) :
      MonitorEffect s (.change .low time) ((s.setLine .low).setRf (.waitHigh time))
  | short (time elapsed : Nat) :
      MonitorEffect s (.change .high time) (((s.setLine .high).diag (.resetShort elapsed)).setRf .waitLow)
  | accepted (time elapsed : Nat) :
      MonitorEffect s (.change .high time)
        ((resetCore ((s.setLine .high).diag (.resetAccepted elapsed))).setRf .waitLow)

theorem monitorEffect_lineChange (lv : Level) (time : Nat) (s : State) :
    MonitorEffect s (.change lv time) (lineChange lv time s) := by
  cases hw : s.watching with
  | false => rw [lineChange_dropped lv time hw]; exact .line lv time
  | true =>
    match hrf : s.rf, lv with
    | .waitLow, .low => rw [lineChange_waitLow_low time hw hrf]; exact .low time hw
    | .waitLow, .high => rw [lineChange_waitLow_high time hw hrf]; exact .line .high time
    | .waitHigh t0, .low => rw [lineChange_waitHigh_low time hw hrf]; exact .line .low time
    | .waitHigh t0, .high =>
      rw [lineChange_waitHigh_high time hw hrf]
      obtain hlong | hshort := le_or_gt Config.tRstMin (time - t0)
      · rw [endOfLow_long _ hlong]; exact .accepted time _
      · rw [endOfLow_short _ hshort]; exact .short time _

theorem monitorEffect (st : RunStep) (s : State) : MonitorEffect s st (monitorStep st s) := by
  cases st with
  | entry time => exact .entry time
  | change lv time => exact monitorEffect_lineChange lv time s

/-! ### Output, time and draws only grow -/

/-- From `s` to `t` no output is lost, and neither the time nor the draw counter goes back. -/
structure Extends (s t : State) : Prop where
  now : s.now ≤ t.now
  draws : s.draws ≤ t.draws
  trace : s.trace <+: t.trace

theorem Extends.trans {s t u : State} (h : Extends s t) (h' : Extends t u) : Extends s u :=
  ⟨h.now.trans h'.now, h.draws.trans h'.draws, h.trace.trans h'.trace⟩

theorem Extends.refl (s : State) : Extends s s := ⟨le_rfl, le_rfl, List.prefix_rfl⟩

theorem extends_deliver (v : Byte) (s : State) : Extends s (deliver v s) := by
  refine ⟨by simp, by simp, ?_⟩
  obtain ⟨lptr, buf, -, h⟩ | ⟨txn, h⟩ := deliver_cases v s <;> simp [h]

theorem extends_startPrepare (len : Nat) (s : State) : Extends s (startPrepare len s) := by
  refine ⟨by simp, by simp, ?_⟩
  cases len <;> simp [startPrepare]

theorem extends_confirmRead (n : Nat) (s : State) : Extends s (confirmRead n s) := by
  refine ⟨by simp, by simp, ?_⟩
  obtain h | h := le_or_gt n s.rwLen
  · simp [confirmRead_within h]
  · simp [confirmRead_excess h]

theorem extends_enterMonitor (time : Nat) (s : State) : Extends s (enterMonitor time s) := by
  refine ⟨by simp, ?_, by simp⟩
  cases h : s.line <;> simp [enterMonitor, h]

theorem MonitorEffect.extends {s t : State} {st : RunStep} (h : MonitorEffect s st t) : Extends s t := by
  cases h with
  | entry time => exact extends_enterMonitor time s
  | line | low | short => exact ⟨by simp, by simp, by simp⟩
  | accepted => exact ⟨by simp, by simp, by simp [List.append_assoc]⟩

theorem Effect.extends {i : Instr} {s t : State} (h : Effect i s t) : Extends s t := by
  cases h with
  | write | invalidWrite | fatal | writeTxn | reset => exact ⟨by simp, by simp, by simp⟩
  | read v => exact extends_deliver v s
  | sample v b => exact .trans ⟨by simp, by simp, by simp⟩ (extends_deliver v (sampleLines b s))
  | invalidRead v a => exact .trans ⟨by simp, by simp, by simp⟩ (extends_deliver v _)
  | prepare len => exact extends_startPrepare len s
  | confirm n => exact extends_confirmRead n s
  | run st => exact (monitorEffect st s).extends

/-! ### The fatal fault is the only halt -/

/-- From `s` to `t` no fatal fault is taken: the core is halted as before, and no fault's record is new. -/
structure Quiet (s t : State) : Prop where
  halted : t.halted = s.halted
  fatal : ∀ info, Output.fatal info ∈ t.trace → Output.fatal info ∈ s.trace

theorem Quiet.trans {s t u : State} (h : Quiet s t) (h' : Quiet t u) : Quiet s u :=
  ⟨h'.halted.trans h.halted, fun info hm => h.fatal info (h'.fatal info hm)⟩

theorem quiet_deliver (v : Byte) (s : State) : Quiet s (deliver v s) := by
  refine ⟨by simp, ?_⟩
  obtain ⟨lptr, buf, -, h⟩ | ⟨txn, h⟩ := deliver_cases v s <;> simp [h]

theorem quiet_startPrepare (len : Nat) (s : State) : Quiet s (startPrepare len s) := by
  refine ⟨by simp, ?_⟩
  cases len <;> simp [startPrepare]

theorem quiet_confirmRead (n : Nat) (s : State) : Quiet s (confirmRead n s) := by
  refine ⟨by simp, ?_⟩
  obtain h | h := le_or_gt n s.rwLen
  · simp [confirmRead_within h]
  · simp [confirmRead_excess h]

theorem MonitorEffect.quiet {s t : State} {st : RunStep} (h : MonitorEffect s st t) : Quiet s t := by
  cases h <;> exact ⟨by simp, by simp⟩

/-- An operation takes the fatal fault or none (R203). -/
theorem Effect.fatal_or_quiet {i : Instr} {s t : State} (h : Effect i s t) :
    (∃ info, t = raiseFatal info s) ∨ Quiet s t := by
  cases h with
  | fatal info => exact .inl ⟨info, rfl⟩
  | write | invalidWrite | writeTxn | reset => exact .inr ⟨by simp, by simp⟩
  | read v => exact .inr (quiet_deliver v s)
  | sample v b => exact .inr (.trans ⟨by simp, by simp⟩ (quiet_deliver v (sampleLines b s)))
  | invalidRead v a => exact .inr (.trans ⟨by simp, by simp⟩ (quiet_deliver v _))
  | prepare len => exact .inr (quiet_startPrepare len s)
  | confirm n => exact .inr (quiet_confirmRead n s)
  | run st => exact .inr (monitorEffect st s).quiet

/-! ### What an operation leaves -/

theorem MonitorEffect.now_pending {s t : State} {st : RunStep} (h : MonitorEffect s st t) :
    t.now = s.now ∧ t.pending = s.pending := by
  cases h <;> simp

/-- The time and the pending calls are the owning loop's: no operation touches them. -/
theorem Effect.now_pending {i : Instr} {s t : State} (h : Effect i s t) : t.now = s.now ∧ t.pending = s.pending := by
  cases h with
  | run st => exact (monitorEffect st s).now_pending
  | _ => simp

/-- Only a step of the monitor touches the monitor and the line (R245). -/
theorem Effect.monitor {i : Instr} {s t : State} (h : Effect i s t) (hi : i.kind ≠ .run) :
    t.rf = s.rf ∧ t.watching = s.watching ∧ t.line = s.line := by
  cases h with
  | run st => exact absurd rfl hi
  | _ => simp

/-- Only a reset or the monitor's reset touches the flags (R26). -/
theorem Effect.flags {i : Instr} {s t : State} (h : Effect i s t) (hr : i ≠ .reset) (hm : ∀ st, i ≠ .run st) :
    t.bankMode = s.bankMode ∧ t.sequentialMode = s.sequentialMode := by
  cases h with
  | reset => exact absurd rfl hr
  | run st => exact absurd rfl (hm st)
  | _ => simp

theorem MonitorEffect.flags_same_or_clear {s t : State} {st : RunStep} (h : MonitorEffect s st t) :
    (t.bankMode = s.bankMode ∧ t.sequentialMode = s.sequentialMode) ∨
      (t.bankMode = false ∧ t.sequentialMode = false) := by
  cases h with
  | accepted => exact .inr ⟨rfl, rfl⟩
  | entry | line | low | short => exact .inl (by simp)

theorem Effect.flags_same_or_clear {i : Instr} {s t : State} (h : Effect i s t) :
    (t.bankMode = s.bankMode ∧ t.sequentialMode = s.sequentialMode) ∨
      (t.bankMode = false ∧ t.sequentialMode = false) := by
  cases h with
  | reset => exact .inr ⟨rfl, rfl⟩
  | run st => exact (monitorEffect st s).flags_same_or_clear
  | _ => exact .inl (by simp)

/-- Only a register write, a reset or the monitor's reset touches a pin (R55, R165). -/
theorem Effect.pins {i : Instr} {s t : State} (h : Effect i s t) (hw : i.kind ≠ .writeAccess) (hr : i.kind ≠ .reset)
    (hm : i.kind ≠ .run) : t.pins = s.pins := by
  cases h with
  | write _ _ hk | invalidWrite _ _ hk => exact absurd hk hw
  | reset => exact absurd rfl hr
  | run => exact absurd rfl hm
  | _ => simp

/-! ### The statements -/

/-- Settles O45. -/
theorem haltedCoreHasNoStep : Obligations.HaltedCoreHasNoStep := by
  intro s hs
  refine ⟨by simp [step, hs], fun i => ?_⟩
  obtain ⟨t, ht, -⟩ := exec_effect i s
  simp [ht, running, hs]

/-- Settles O46. -/
theorem liveCoreRunsEveryOperation : Obligations.LiveCoreRunsEveryOperation := by
  intro s i hs
  obtain ⟨t, ht, -⟩ := exec_effect i s
  exact ⟨t, ht.trans (running_live hs)⟩

/-- Settles O53. -/
theorem onlyWritesAndResetsChangePins : Obligations.OnlyWritesAndResetsChangePins :=
  fun _ _ _ h => (effect_of_exec h).2.pins

end Sys2Proof.Machine
end

section
/-! SUPPORT. One step of the machine (R74, R219): the owning loop's two parts, an equation for each thing a step can take,
and once for all steps what a step can be; O44, O47, O48, O51, O52 and O54 to O57. -/

namespace Sys2Proof.Machine

open Sys2Proof.Claims

/-! ### The owning loop's part before an operation -/

theorem ownerBefore_writeAccess {i : Instr} (h : i.kind = .writeAccess) (s : State) : ownerBefore i s = s := by
  simp only [ownerBefore, h]

theorem ownerBefore_readAccess {i : Instr} (h : i.kind = .readAccess) (s : State) : ownerBefore i s = s := by
  simp only [ownerBefore, h]

@[simp] theorem ownerBefore_writeTxn (bytes : List Byte) (s : State) :
    ownerBefore (.writeTxn bytes) s = dropMonitor s := rfl
@[simp] theorem ownerBefore_prepare (len : Nat) (s : State) : ownerBefore (.prepare len) s = dropMonitor s := rfl
@[simp] theorem ownerBefore_confirm (n : Nat) (s : State) : ownerBefore (.confirm n) s = dropMonitor s := rfl

/-- Before an operation the loop drops the monitor or does nothing (R245). -/
theorem ownerBefore_cases (i : Instr) (s : State) : ownerBefore i s = dropMonitor s ∨ ownerBefore i s = s := by
  unfold ownerBefore
  split
  case h_1 | h_2 | h_3 => exact .inl rfl
  all_goals exact .inr rfl

@[simp] theorem ownerBefore_halted (i : Instr) (s : State) : (ownerBefore i s).halted = s.halted := by
  obtain h | h := ownerBefore_cases i s <;> simp [h]

theorem extends_ownerBefore (i : Instr) (s : State) : Extends s (ownerBefore i s) := by
  obtain h | h := ownerBefore_cases i s
  · rw [h]; exact ⟨by simp, by simp, by simp⟩
  · rw [h]; exact .refl s

theorem ownerBefore_flags (i : Instr) (s : State) :
    (ownerBefore i s).bankMode = s.bankMode ∧ (ownerBefore i s).sequentialMode = s.sequentialMode := by
  obtain h | h := ownerBefore_cases i s <;> simp [h]

/-! ### The owning loop's part after an operation -/

/-- The loop after an operation that may end a bus transaction: the monitor is entered again if the transaction is over and
the core not halted (R219, R204). -/
def reenter (s : State) : State :=
  if s.halted then s else if s.txn = .idle then enterMonitor s.now s else s

theorem reenter_halted {s : State} (h : s.halted = true) : reenter s = s := by simp [reenter, h]

theorem reenter_underWay {s : State} (h : s.txn ≠ .idle) : reenter s = s := by simp [reenter, h]

theorem reenter_idle {s : State} (hl : s.halted = false) (ht : s.txn = .idle) : reenter s = enterMonitor s.now s := by
  simp [reenter, hl, ht]

theorem reenter_cases (s : State) :
    reenter s = s ∨ (s.halted = false ∧ s.txn = .idle ∧ reenter s = enterMonitor s.now s) := by
  cases hl : s.halted with
  | true => exact .inl (reenter_halted hl)
  | false =>
    by_cases ht : s.txn = .idle
    · exact .inr ⟨rfl, ht, reenter_idle hl ht⟩
    · exact .inl (reenter_underWay ht)

theorem ownerAfter_writeAccess {i : Instr} (h : i.kind = .writeAccess) (s : State) : ownerAfter i s = reenter s := by
  simp only [ownerAfter, h, reenter]

theorem ownerAfter_readAccess {i : Instr} (h : i.kind = .readAccess) (s : State) : ownerAfter i s = s := by
  simp only [ownerAfter, h]

theorem ownerAfter_writeTxn (bytes : List Byte) (s : State) : ownerAfter (.writeTxn bytes) s = reenter s := rfl

theorem ownerAfter_prepare (len : Nat) (s : State) : ownerAfter (.prepare len) s = s := rfl

theorem ownerAfter_confirm (n : Nat) (s : State) : ownerAfter (.confirm n) s = reenter s := rfl

/-- After an operation the loop enters the monitor or does nothing. -/
theorem ownerAfter_cases (i : Instr) (s : State) :
    ownerAfter i s = s ∨ (s.halted = false ∧ s.txn = .idle ∧ ownerAfter i s = enterMonitor s.now s) := by
  have h : ownerAfter i s = reenter s ∨ ownerAfter i s = s := by
    unfold ownerAfter
    split
    case h_1 | h_2 | h_3 => exact .inl rfl
    all_goals exact .inr rfl
  obtain h | h := h
  · rw [h]; exact reenter_cases s
  · exact .inl h

theorem extends_ownerAfter (i : Instr) (s : State) : Extends s (ownerAfter i s) := by
  obtain h | ⟨-, -, h⟩ := ownerAfter_cases i s
  · rw [h]; exact .refl s
  · rw [h]; exact extends_enterMonitor _ s

theorem ownerAfter_flags (i : Instr) (s : State) :
    (ownerAfter i s).bankMode = s.bankMode ∧ (ownerAfter i s).sequentialMode = s.sequentialMode := by
  obtain h | ⟨-, -, h⟩ := ownerAfter_cases i s <;> simp [h]

/-- After a bus transaction's end the monitor waits for a low, or with the line low has recorded the time (R242). -/
theorem enterMonitor_rf_cases (time : Nat) (s : State) :
    (enterMonitor time s).rf = .waitLow ∨ (s.line = .low ∧ (enterMonitor time s).rf = .waitHigh time) := by
  cases h : s.line with
  | high => exact .inl (by simp [enterMonitor_high time h])
  | low => exact (enterMonitor_low time h).imp_right fun hrf => ⟨rfl, hrf⟩

/-! ### The equation of each step -/

/-- The state with the next call taken: its time has come (R241). -/
def takeCall (rest : List Call) (c : Call) (s : State) : State := (s.setPending rest).setNow (max s.now c.time)

@[simp] theorem takeCall_bankMode (rest : List Call) (c : Call) (s : State) :
    (takeCall rest c s).bankMode = s.bankMode := rfl
@[simp] theorem takeCall_sequentialMode (rest : List Call) (c : Call) (s : State) :
    (takeCall rest c s).sequentialMode = s.sequentialMode := rfl
@[simp] theorem takeCall_halted (rest : List Call) (c : Call) (s : State) : (takeCall rest c s).halted = s.halted := rfl
@[simp] theorem takeCall_line (rest : List Call) (c : Call) (s : State) : (takeCall rest c s).line = s.line := rfl
@[simp] theorem takeCall_txn (rest : List Call) (c : Call) (s : State) : (takeCall rest c s).txn = s.txn := rfl

theorem step_writeByte {s : State} {v : Byte} {rest : List Byte} (hs : s.halted = false) (ht : s.txn = .write v rest) :
    step s = finishStep (decodeWrite s.ptr s.bankMode v)
      (exec (decodeWrite s.ptr s.bankMode v) (s.setTxn (Txn.ofBytes rest))) := by
  rw [step_of_fetch hs (fetch_write ht) (decode_writeKey ..), ownerBefore_writeAccess (decodeWrite_kind ..)]

theorem finishStep_readAccess {i : Instr} (h : i.kind = .readAccess) (r : Result) : finishStep i r = r := by
  cases r with
  | next s => simp only [finishStep, ownerAfter_readAccess h]
  | fault | refused => rfl

theorem step_readByte {s : State} {lptr : Byte} {more : Nat} {buf : List Byte} (hs : s.halted = false)
    (ht : s.txn = .read lptr more buf) : step s = exec (decodeRead lptr s.bankMode) s := by
  rw [step_of_fetch hs (fetch_read ht) (decode_readKey ..), ownerBefore_readAccess (decodeRead_kind ..),
    finishStep_readAccess (decodeRead_kind ..)]

theorem step_call {s : State} {c : Call} {rest : List Call} {i : Instr} (hs : s.halted = false) (ht : s.txn = .idle)
    (hp : s.pending = c :: rest) (hd : decode (.call { c with time := max s.now c.time }) = .ok i) :
    step s = finishStep i (exec i (ownerBefore i (takeCall rest c s))) :=
  step_of_fetch hs (fetch_call ht hp) hd

theorem step_wait {s : State} (hs : s.halted = false) (ht : s.txn = .idle) (hp : s.pending = []) : step s = .next s := by
  simp [step, fetch, hs, ht, hp]

/-- A call's step with the state its operation answers given. -/
theorem step_call_next {s u : State} {c : Call} {rest : List Call} {i : Instr} (hs : s.halted = false) (ht : s.txn = .idle)
    (hp : s.pending = c :: rest) (hd : decode (.call { c with time := max s.now c.time }) = .ok i)
    (he : exec i (ownerBefore i (takeCall rest c s)) = running (ownerBefore i (takeCall rest c s)) u) :
    step s = .next (ownerAfter i u) := by
  have live : (ownerBefore i (takeCall rest c s)).halted = false := (ownerBefore_halted i _).trans hs
  rw [step_call hs ht hp hd, he, running_live live, finishStep]

theorem runSteps_of_step {s t : State} (n : Nat) (h : step s = .next t) : runSteps (n + 1) s = runSteps n t := by
  simp only [runSteps, h]

/-! ### What a step can be -/

/-- Everything a step that answers a next state can be: waiting, a data byte, a buffer byte, or a call. -/
inductive StepCase (s : State) : State → Prop
  | wait (ht : s.txn = .idle) (hp : s.pending = []) : StepCase s s
  | writeByte {v : Byte} {rest : List Byte} {u : State} (ht : s.txn = .write v rest)
      (he : Effect (decodeWrite s.ptr s.bankMode v) (s.setTxn (Txn.ofBytes rest)) u) :
      StepCase s (ownerAfter (decodeWrite s.ptr s.bankMode v) u)
  | readByte {lptr : Byte} {more : Nat} {buf : List Byte} {t : State} (ht : s.txn = .read lptr more buf)
      (he : Effect (decodeRead lptr s.bankMode) s t) : StepCase s t
  | call {c : Call} {rest : List Call} {i : Instr} {u : State} (ht : s.txn = .idle) (hp : s.pending = c :: rest)
      (hd : CallDecodes { c with time := max s.now c.time } i) (he : Effect i (ownerBefore i (takeCall rest c s)) u) :
      StepCase s (ownerAfter i u)

theorem finishStep_next {i : Instr} {r : Result} {t : State} (h : finishStep i r = .next t) :
    ∃ u, r = .next u ∧ t = ownerAfter i u := by
  cases r with
  | next u => exact ⟨u, rfl, by simpa [finishStep] using h.symm⟩
  | fault | refused => simp [finishStep] at h

/-- A step that answers a next state took a call that decodes. -/
theorem decode_of_step_call {s t : State} {c : Call} {rest : List Call} (ht : s.txn = .idle) (hp : s.pending = c :: rest)
    (h : step s = .next t) : ∃ i, decode (.call { c with time := max s.now c.time }) = .ok i := by
  obtain ⟨-, ⟨hf, -⟩ | ⟨f, taken, i, u, hf, hd, -⟩⟩ := step_cases h
  · simp [fetch_call ht hp] at hf
  · rw [fetch_call ht hp, Option.some.injEq, Prod.mk.injEq] at hf
    exact ⟨i, hf.1 ▸ hd⟩

theorem stepCase_of_step {s t : State} (h : step s = .next t) : s.halted = false ∧ StepCase s t := by
  have hs : s.halted = false := (step_cases h).1
  refine ⟨hs, ?_⟩
  match ht : s.txn, hp : s.pending with
  | .write v rest, _ =>
    rw [step_writeByte hs ht] at h
    obtain ⟨u, hu, rfl⟩ := finishStep_next h
    exact .writeByte ht (effect_of_exec hu).2
  | .read lptr more buf, _ =>
    rw [step_readByte hs ht] at h
    exact .readByte ht (effect_of_exec h).2
  | .idle, [] =>
    rw [step_wait hs ht hp] at h
    cases h
    exact .wait ht hp
  | .idle, c :: rest =>
    obtain ⟨i, hd⟩ := decode_of_step_call ht hp h
    rw [step_call hs ht hp hd] at h
    obtain ⟨u, hu, rfl⟩ := finishStep_next h
    exact .call ht hp (callDecodes_of_ok hd) (effect_of_exec hu).2

theorem extends_takeCall (rest : List Call) (c : Call) (s : State) : Extends s (takeCall rest c s) :=
  ⟨le_max_left _ _, le_rfl, List.prefix_rfl⟩

theorem extends_setTxn (txn : Txn) (s : State) : Extends s (s.setTxn txn) := ⟨le_rfl, le_rfl, List.prefix_rfl⟩

theorem StepCase.extends {s t : State} (h : StepCase s t) : Extends s t := by
  cases h with
  | wait => exact .refl s
  | writeByte _ he =>
    exact ((extends_setTxn ..).trans he.extends).trans (extends_ownerAfter _ _)
  | readByte _ he => exact he.extends
  | call _ _ _ he =>
    exact (((extends_takeCall ..).trans (extends_ownerBefore ..)).trans he.extends).trans (extends_ownerAfter _ _)

theorem StepCase.flags_same_or_clear {s t : State} (h : StepCase s t) :
    (t.bankMode = s.bankMode ∧ t.sequentialMode = s.sequentialMode) ∨
      (t.bankMode = false ∧ t.sequentialMode = false) := by
  cases h with
  | wait => exact .inl ⟨rfl, rfl⟩
  | writeByte _ he => simpa [ownerAfter_flags] using he.flags_same_or_clear
  | readByte _ he => exact he.flags_same_or_clear
  | call _ _ _ he => simpa [ownerAfter_flags, ownerBefore_flags] using he.flags_same_or_clear

/-! ### The statements -/

/-- Settles O47. -/
theorem stepRunsTheDecodedOperation : Obligations.StepRunsTheDecodedOperation :=
  fun _ hs => ⟨fun _ _ => step_writeByte hs, fun _ _ _ => step_readByte hs, fun _ _ _ => step_call hs, step_wait hs⟩

/-- Settles O48: the write of the byte is fatal, and a halted core is left alone by the loop and has no step. -/
theorem fatalDataByteStopsTheCore : Obligations.FatalDataByteStopsTheCore := by
  intro s v rest ty b hs ht hdec hty
  refine ⟨?_, (haltedCoreHasNoStep _ rfl).1⟩
  have hwr : decodeWrite s.ptr s.bankMode v = Instr.wr s.bankMode ty b v := by simp [decodeWrite, hdec]
  have hkind := decodeWrite_kind s.ptr s.bankMode v
  rw [step_writeByte hs ht, hwr, exec_wr_unimplemented _ _ _ _ hty, registerAddress_of_decode hdec,
    running_live (by simpa using hs), finishStep, ownerAfter_writeAccess (hwr ▸ hkind), reenter_halted rfl]
  rfl

/-- Settles O51. -/
theorem onlyResetWritesFlags : Obligations.OnlyResetWritesFlags :=
  ⟨fun _ _ _ h hr hm => (effect_of_exec h).2.flags hr hm, fun _ _ h => (stepCase_of_step h).2.flags_same_or_clear⟩

theorem runSteps_keeps_cleared_flags (n : Nat) {s t : State} (hb : s.bankMode = false) (hq : s.sequentialMode = false)
    (h : runSteps n s = .next t) : t.bankMode = false ∧ t.sequentialMode = false := by
  induction n generalizing s with
  | zero => cases h; exact ⟨hb, hq⟩
  | succ n ih =>
    cases hstep : step s with
    | next u =>
      rw [runSteps_of_step n hstep] at h
      obtain ⟨hb', hq'⟩ | ⟨hb', hq'⟩ := (stepCase_of_step hstep).2.flags_same_or_clear
      · exact ih (hb'.trans hb) (hq'.trans hq) h
      · exact ih hb' hq' h
    | fault | refused => simp [runSteps, hstep] at h

/-- Settles O52, by induction on the number of steps. -/
theorem modeStaysToggleAfterReset : Obligations.ModeStaysToggleAfterReset := by
  intro n s t hb hq h
  obtain ⟨hb', hq'⟩ := runSteps_keeps_cleared_flags n hb hq h
  exact ⟨hb', hq', by simp [State.mode, hb', hq']⟩

/-- Settles O54. -/
theorem outputIsOnlyAppended : Obligations.OutputIsOnlyAppended := by
  intro s t h
  obtain ⟨outs, houts⟩ := (stepCase_of_step h).2.extends.trace
  exact ⟨outs, houts.symm⟩

/-- Settles O57. -/
theorem clockAndDrawsNeverGoBack : Obligations.ClockAndDrawsNeverGoBack :=
  fun _ _ h => ⟨(stepCase_of_step h).2.extends.now, (stepCase_of_step h).2.extends.draws⟩

/-- Settles O55: a byte's operation touches neither calls nor monitor, and the loop enters the monitor only once the
transaction is over. -/
theorem transactionIsNotInterrupted : Obligations.TransactionIsNotInterrupted := by
  intro s t hne h
  cases (stepCase_of_step h).2 with
  | wait ht => exact absurd ht hne
  | call ht => exact absurd ht hne
  | readByte _ he =>
    obtain ⟨hnow, hpending⟩ := he.now_pending
    obtain ⟨hrf, hw, hline⟩ := he.monitor (by simp [decodeRead_kind])
    exact ⟨hpending, hnow, hline, fun _ => ⟨hrf, hw⟩⟩
  | @writeByte v rest u _ he =>
    obtain ⟨hnow, hpending⟩ := he.now_pending
    obtain ⟨hrf, hw, hline⟩ := he.monitor (by simp [decodeWrite_kind])
    obtain hafter | ⟨-, hidle, hafter⟩ := ownerAfter_cases (decodeWrite s.ptr s.bankMode v) u
    · rw [hafter]; exact ⟨hpending, hnow, hline, fun _ => ⟨hrf, hw⟩⟩
    · rw [hafter]
      exact ⟨by simpa using hpending, by simpa using hnow, by simpa using hline,
        fun hu => absurd (by simpa using hidle) hu⟩

/-- What the loop does once a bus transaction that began with a dropped monitor is over. -/
theorem reenter_monitor {s u : State} (hl : u.halted = false) (ht : u.txn = .idle) (hline : u.line = s.line) :
    (reenter u).watching = true ∧
      ((reenter u).rf = .waitLow ∨ (s.line = .low ∧ (reenter u).rf = .waitHigh (reenter u).now)) := by
  rw [reenter_idle hl ht, ← hline]
  refine ⟨by simp, ?_⟩
  simpa using enterMonitor_rf_cases u.now u

/-- Settles O56: each call of a bus transaction runs with the monitor dropped; those that end it have the loop enter the
monitor again. -/
theorem busTransactionDropsTheMonitor : Obligations.BusTransactionDropsTheMonitor := by
  intro s t c rest i hs ht hp hd h
  have answer : ∀ {u}, exec i (ownerBefore i (takeCall rest c s)) = running (ownerBefore i (takeCall rest c s)) u →
      t = ownerAfter i u := fun he => by
    rw [step_call_next hs ht hp hd he] at h
    cases h; rfl
  constructor
  · rintro (⟨a, v, data, rfl⟩ | ⟨len, rfl⟩)
    · rw [answer rfl, ownerAfter_writeTxn, reenter_underWay (by simp [startWrite, Txn.ofBytes])]
      simp
    · rw [answer rfl, ownerAfter_prepare]
      simp
  · rintro (⟨n, rfl⟩ | rfl | ⟨a, rfl⟩)
    · rw [answer rfl, ownerAfter_confirm]
      exact reenter_monitor (by simpa using hs) (by simpa using ht) (by simp)
    · rw [answer rfl, ownerAfter_writeTxn]
      exact reenter_monitor (by simpa using hs) ht (by simp)
    · rw [answer rfl, ownerAfter_writeTxn]
      exact reenter_monitor (by simpa using hs) rfl (by simp)

end Sys2Proof.Machine
end

section
/-! SUPPORT. The invariant (R203, R204, R219, R241, R245): kept by each part of a step, and O49 and O50 from them. -/

namespace Sys2Proof.Machine

/-! ### How a state comes to meet the invariant -/

/-- From a live state without a fault: what the invariant says of the fault goes on to hold, what it says of the monitor is
to be shown. -/
theorem inv_of_quiet {s t : State} (hs : s.Inv) (hl : s.halted = false) (hq : Quiet s t)
    (dropped : t.watching = false → t.rf = .waitLow) (lowInPast : ∀ t0, t.rf = .waitHigh t0 → t0 ≤ t.now)
    (exclusive : t.txn ≠ .idle → t.watching = false) : t.Inv := by
  have live : t.halted = false := hq.halted.trans hl
  have noFault : ∀ info, Output.fatal info ∉ t.trace := fun info hm => hs.noEarlierFault hl info (hq.fatal info hm)
  refine ⟨dropped, lowInPast, exclusive, fun h => ?_, ⟨fun h => ?_, fun ⟨info, h⟩ => ?_⟩, fun _ => noFault⟩
  · simp [live] at h
  · simp [live] at h
  · exact absurd (List.mem_of_getLast? h) (noFault info)

/-- The fatal fault's record becomes the last output and the transaction ends (R203). -/
theorem inv_raiseFatal {s : State} (info : FatalInfo) (hs : s.Inv) : (raiseFatal info s).Inv where
  dropped := hs.dropped
  lowInPast := hs.lowInPast
  exclusive := fun h => absurd rfl h
  haltedIdle := fun _ => rfl
  finalDiagnostic := ⟨fun _ => ⟨info, by simp⟩, fun _ => rfl⟩
  noEarlierFault := fun h => by simp at h

/-- A dropped monitor with no low recorded meets what the invariant asks of it, whatever the transaction. -/
theorem inv_of_dropped {s t : State} (hs : s.Inv) (hl : s.halted = false) (hq : Quiet s t) (hw : t.watching = false)
    (hrf : t.rf = .waitLow) : t.Inv :=
  inv_of_quiet hs hl hq (fun _ => hrf) (by simp [hrf]) fun _ => hw

/-! ### The parts of a step -/

theorem inv_enterMonitor {s : State} (hs : s.Inv) (hl : s.halted = false) (ht : s.txn = .idle) :
    (enterMonitor s.now s).Inv := by
  refine inv_of_quiet hs hl ⟨by simp, by simp⟩ (by simp) (fun t0 h => ?_) (by simp [ht])
  obtain hrf | ⟨-, hrf⟩ := enterMonitor_rf_cases s.now s
  · simp [hrf] at h
  · rw [hrf, FilterState.waitHigh.injEq] at h
    simp [h]

theorem inv_ownerAfter (i : Instr) {s : State} (hs : s.Inv) : (ownerAfter i s).Inv := by
  obtain h | ⟨hl, ht, h⟩ := ownerAfter_cases i s
  · rw [h]; exact hs
  · rw [h]; exact inv_enterMonitor hs hl ht

theorem inv_dropMonitor {s : State} (hs : s.Inv) (hl : s.halted = false) : (dropMonitor s).Inv :=
  inv_of_dropped hs hl ⟨rfl, fun _ => id⟩ rfl rfl

theorem inv_takeCall (rest : List Call) (c : Call) {s : State} (hs : s.Inv) : (takeCall rest c s).Inv where
  dropped := hs.dropped
  lowInPast := fun t0 h => (hs.lowInPast t0 h).trans (le_max_left _ _)
  exclusive := hs.exclusive
  haltedIdle := hs.haltedIdle
  finalDiagnostic := hs.finalDiagnostic
  noEarlierFault := hs.noEarlierFault

/-- A data byte is taken from a write under way, so the monitor is dropped. -/
theorem inv_setTxn (txn : Txn) {s : State} (hs : s.Inv) (hl : s.halted = false) (ht : s.txn ≠ .idle) :
    (s.setTxn txn).Inv :=
  have hw := hs.exclusive ht
  inv_of_dropped hs hl ⟨rfl, fun _ => id⟩ hw (hs.dropped hw)

/-- With the monitor dropped every operation but a monitor step keeps the invariant. -/
theorem Effect.inv_of_dropped {i : Instr} {s t : State} (he : Effect i s t) (hi : i.kind ≠ .run) (hs : s.Inv)
    (hl : s.halted = false) (hw : s.watching = false) : t.Inv := by
  obtain ⟨info, rfl⟩ | hq := he.fatal_or_quiet
  · exact inv_raiseFatal info hs
  · obtain ⟨hrf, hw', -⟩ := he.monitor hi
    exact Machine.inv_of_dropped hs hl hq (hw'.trans hw) (hrf.trans (hs.dropped hw))

theorem inv_resetCore {s : State} (hs : s.Inv) (hl : s.halted = false) : (resetCore s).Inv :=
  inv_of_quiet hs hl ⟨by simp, by simp⟩ hs.dropped hs.lowInPast hs.exclusive

/-- A change of the line between transactions, at the present time (R243). -/
theorem inv_lineChange (lv : Level) {s : State} (hs : s.Inv) (hl : s.halted = false) (ht : s.txn = .idle) :
    (lineChange lv s.now s).Inv := by
  have he := monitorEffect_lineChange lv s.now s
  have hq : Quiet s (lineChange lv s.now s) := he.quiet
  generalize lineChange lv s.now s = t at he hq ⊢
  cases he with
  | line => exact inv_of_quiet hs hl hq hs.dropped hs.lowInPast hs.exclusive
  | low _ hw => exact inv_of_quiet hs hl hq (by simp [hw]) (by simp) (by simp [ht])
  | short | accepted => exact inv_of_quiet hs hl hq (by simp) (by simp) (by simp [ht])

/-! ### The statements -/

/-- Settles O49. -/
theorem resetMeetsInvariant : Obligations.ResetMeetsInvariant where
  dropped := fun _ => rfl
  lowInPast := fun _ h => by cases h
  exclusive := fun _ => by contradiction
  haltedIdle := fun _ => rfl
  finalDiagnostic := by simp [State.reset]
  noEarlierFault := by simp [State.reset]

/-- A call runs between transactions; a bus transaction's has the monitor dropped before it, and a monitor step has the
present time. -/
theorem inv_of_call {c : Call} {i : Instr} {s u : State} (he : Effect i (ownerBefore i s) u) (hd : CallDecodes c i)
    (hc : c.time = s.now) (hs : s.Inv) (hl : s.halted = false) (ht : s.txn = .idle) : u.Inv := by
  cases hd with
  | writeTxn | prepare | confirm => exact he.inv_of_dropped (by simp [Instr.kind]) (inv_dropMonitor hs hl) hl rfl
  | reset => exact effect_reset he ▸ inv_resetCore hs hl
  | entry => exact effect_run he ▸ hc ▸ inv_enterMonitor hs hl ht
  | change lv => exact effect_run he ▸ hc ▸ inv_lineChange lv hs hl ht

/-- Settles O50, by what the step was. -/
theorem stepKeepsInvariant : Obligations.StepKeepsInvariant := by
  intro s t hs h
  obtain ⟨hl, hcase⟩ := stepCase_of_step h
  cases hcase with
  | wait => exact hs
  | writeByte ht he =>
    have hne : s.txn ≠ .idle := by simp [ht]
    refine inv_ownerAfter _ (he.inv_of_dropped (by simp [decodeWrite_kind]) ?_ hl (hs.exclusive hne))
    exact inv_setTxn _ hs hl hne
  | readByte ht he =>
    exact he.inv_of_dropped (by simp [decodeRead_kind]) hs hl (hs.exclusive (by simp [ht]))
  | call ht _ hd he => exact inv_ownerAfter _ (inv_of_call he hd rfl (inv_takeCall _ _ hs) hl ht)

end Sys2Proof.Machine
end

section
/-! SUPPORT. Runs of several steps: a low pulse (R243, R244), and the steps of a transaction against the pseudocode of the
whole (R120, R150); O32, O34, O35, O37 and O44. -/

namespace Sys2Proof.Machine

open Sys2Proof.Claims

/-! ### A low pulse -/

@[simp] theorem endOfLow_rf (t0 t : Nat) (s : State) : (endOfLow t0 t s).rf = .waitLow := rfl

@[simp] theorem endOfLow_halted (t0 t : Nat) (s : State) : (endOfLow t0 t s).halted = s.halted := by
  unfold endOfLow; split <;> rfl

/-- The state in which the line is low and that is on record, with the calls `rest` still to come. -/
def lowRecorded (low : Nat) (rest : List Call) (s : State) : State :=
  (((s.setPending rest).setNow low).setLine .low).setRf (.waitHigh low)

/-- The step of a change to low: `encode` packs it as entry code 4 with the operand word 0. -/
theorem step_goesLow {s : State} {low : Nat} {rest : List Call} (hs : s.halted = false) (ht : s.txn = .idle)
    (hw : s.watching = true) (hrf : s.rf = .waitLow) (hlow : s.now ≤ low) (hp : s.pending = ⟨low, 4, [0]⟩ :: rest) :
    step s = .next (lowRecorded low rest s) := by
  have hd : decode (.call ⟨max s.now low, 4, [0]⟩) = .ok (.run (.change .low (max s.now low))) := rfl
  rw [step_call_next hs ht hp hd rfl]
  have hline := lineChange_waitLow_low (s := takeCall rest ⟨low, 4, [0]⟩ s) (max s.now low) hw hrf
  refine congrArg Host.Outcome.next (hline.trans ?_)
  simp only [takeCall, lowRecorded, max_eq_right hlow]

/-- The step of a change to high after a recorded low. -/
theorem step_goesHigh {s : State} {t0 high : Nat} {rest : List Call} (hs : s.halted = false) (ht : s.txn = .idle)
    (hw : s.watching = true) (hrf : s.rf = .waitHigh t0) (hhigh : s.now ≤ high)
    (hp : s.pending = ⟨high, 4, [1]⟩ :: rest) :
    step s = .next (endOfLow t0 high (((s.setPending rest).setNow high).setLine .high)) := by
  have hd : decode (.call ⟨max s.now high, 4, [1]⟩) = .ok (.run (.change .high (max s.now high))) := rfl
  rw [step_call_next hs ht hp hd rfl]
  have hline := lineChange_waitHigh_high (s := takeCall rest ⟨high, 4, [1]⟩ s) (max s.now high) hw hrf
  refine congrArg Host.Outcome.next (hline.trans ?_)
  simp only [takeCall, max_eq_right hhigh]

theorem runSteps_lowPulse {s : State} {low high : Nat} (hs : s.halted = false) (ht : s.txn = .idle)
    (hw : s.watching = true) (hrf : s.rf = .waitLow) (hlow : s.now ≤ low) (hhigh : low ≤ high)
    (hp : s.pending = [⟨low, 4, [0]⟩, ⟨high, 4, [1]⟩]) :
    runSteps 2 s = .next (endOfLow low high
      ((((lowRecorded low [⟨high, 4, [1]⟩] s).setPending []).setNow high).setLine .high)) := by
  have first := step_goesLow hs ht hw hrf hlow hp
  have second := step_goesHigh (s := lowRecorded low [⟨high, 4, [1]⟩] s) hs ht hw rfl hhigh rfl
  rw [runSteps_of_step 1 first, runSteps_of_step 0 second, runSteps]

/-- Settles O44: the low is recorded by the first step, and the second ends it. -/
theorem lowPulseResetsIfLongEnough : Obligations.LowPulseResetsIfLongEnough := by
  intro s low high hs ht hw hrf hlow hhigh hp
  refine ⟨_, runSteps_lowPulse hs ht hw hrf hlow hhigh hp, endOfLow_rf .., ?_, resetValues_endOfLow _, fun hshort => ?_⟩
  · simpa [lowRecorded] using hs
  · simp [endOfLow_short _ hshort, SameRegisters, lowRecorded]

/-! ### One data byte -/

theorem setPins_setTxn (pins : Vector Pin 16) (txn : Txn) (s : State) :
    (s.setTxn txn).setPins pins = (s.setPins pins).setTxn txn := rfl

theorem pushPins_setTxn (l : List (Fin 16)) (txn : Txn) (s : State) :
    pushPins l (s.setTxn txn) = (pushPins l s).setTxn txn := rfl

theorem writeBank_setTxn (b : Bank) (f : Fin 8 → Pin → Pin) (txn : Txn) (s : State) :
    writeBank b f (s.setTxn txn) = (writeBank b f s).setTxn txn := by
  simp only [writeBank, setTxn_pins, setPins_setTxn, pushPins_setTxn]

theorem running_setTxn (txn : Txn) (s t : State) : running (s.setTxn txn) t = running s t := rfl

theorem exec_wr_invalid (m : Bool) (a v : Byte) (s : State) :
    exec (if m then .wrInvalid_b1 a v else .wrInvalid_b0 a v) s = running s (advancePtr (wrInvalid a v s)) := by
  cases m <;> rfl

theorem exec_rd_invalid (m : Bool) (a : Byte) (s : State) :
    exec (if m then .rdInvalid_b1 a else .rdInvalid_b0 a) s = running s (rdInvalid a s) := by
  cases m <;> rfl

/-- A write of a bank does not look at the transaction. -/
theorem exec_setTxn_of_writeBank {i : Instr} {b : Bank} {f : Fin 8 → Pin → Pin}
    (h : ∀ u, exec i u = running u (advancePtr (writeBank b f u))) (s : State) :
    (writeBank b f s).halted = s.halted ∧ (writeBank b f s).txn = s.txn ∧
      ∀ txn, exec i (s.setTxn txn) = running s (advancePtr ((writeBank b f s).setTxn txn)) :=
  ⟨writeBank_halted .., writeBank_txn .., fun txn => by rw [h, writeBank_setTxn, running_setTxn]⟩

/-- The register write of a data byte: the fatal fault, or a write that halts nothing. In both cases the operation the key
selects does the same with bytes under way, and after the second advances the pointer (R122, R124, R138). -/
theorem regWrite_cases (a v : Byte) (s : State) :
    (∃ info, regWrite a v s = raiseFatal info s ∧
      ∀ txn, exec (decodeWrite a s.bankMode v) (s.setTxn txn) = running s (raiseFatal info s)) ∨
    ((regWrite a v s).halted = s.halted ∧ (regWrite a v s).txn = s.txn ∧
      ∀ txn, exec (decodeWrite a s.bankMode v) (s.setTxn txn) = running s (advancePtr ((regWrite a v s).setTxn txn))) := by
  unfold regWrite decodeWrite
  cases hd : decodeAddress a s.bankMode with
  | none => exact .inr ⟨rfl, rfl, fun _ => exec_wr_invalid ..⟩
  | some reg =>
    obtain ⟨ty, b⟩ := reg
    cases ty with
    | IODIR => exact .inr (exec_setTxn_of_writeBank (fun u => exec_wr_iodir u s.bankMode b v) s)
    | GPPU => exact .inr (exec_setTxn_of_writeBank (fun u => exec_wr_gppu u s.bankMode b v) s)
    | GPIO => exact .inr (exec_setTxn_of_writeBank (fun u => exec_wr_gpio u s.bankMode b v) s)
    | OLAT => exact .inr (exec_setTxn_of_writeBank (fun u => exec_wr_olat u s.bankMode b v) s)
    | IPOL | GPINTEN | DEFVAL | INTCON | IOCON | INTF | INTCAP =>
      exact .inl ⟨_, rfl, fun _ => registerAddress_of_decode hd ▸ exec_wr_unimplemented _ _ _ _ rfl⟩
/-- The data phase after a byte that takes the fatal fault (R138). -/
theorem writeData_fatal {v : Byte} {s : State} (rest : List Byte) (h : (regWrite s.ptr v s).halted = true) :
    writeData (v :: rest) s = regWrite s.ptr v s := by
  simp [writeData, h]

theorem writeData_live {v : Byte} {s : State} (rest : List Byte) (h : (regWrite s.ptr v s).halted = false) :
    writeData (v :: rest) s = writeData rest (advancePtr (regWrite s.ptr v s)) := by
  simp [writeData, h]

/-- The step of a data byte in the pseudocode's terms. -/
theorem step_dataByte {v : Byte} {s : State} (rest : List Byte) (hs : s.halted = false) :
    (∃ info, regWrite s.ptr v s = raiseFatal info s ∧
      step (s.setTxn (.write v rest)) = .next (raiseFatal info s)) ∨
    ((regWrite s.ptr v s).halted = false ∧ (regWrite s.ptr v s).txn = s.txn ∧
      step (s.setTxn (.write v rest)) =
        .next (reenter ((advancePtr (regWrite s.ptr v s)).setTxn (Txn.ofBytes rest)))) := by
  have hstep := step_writeByte (s := s.setTxn (.write v rest)) hs rfl
  have hafter := ownerAfter_writeAccess (decodeWrite_kind s.ptr s.bankMode v)
  obtain ⟨info, hw, hexec⟩ | ⟨hl, ht, hexec⟩ := regWrite_cases s.ptr v s
  · refine .inl ⟨info, hw, hstep.trans ?_⟩
    refine (congrArg _ ((hexec _).trans (running_live hs))).trans ?_
    exact congrArg _ ((hafter _).trans (reenter_halted rfl))
  · refine .inr ⟨hl.trans hs, ht, hstep.trans ?_⟩
    refine (congrArg _ ((hexec _).trans (running_live hs))).trans ?_
    exact congrArg _ (hafter _)

/-! ### A write transaction -/

theorem writeData_txn (data : List Byte) {s : State} (hs : s.halted = false) (ht : s.txn = .idle) :
    (writeData data s).txn = .idle := by
  induction data generalizing s with
  | nil => exact ht
  | cons v rest ih =>
    obtain ⟨info, hw, -⟩ | ⟨hl, ht', -⟩ := step_dataByte (v := v) rest hs
    · rw [writeData_fatal rest (by simp [hw]), hw, raiseFatal_txn]
    · rw [writeData_live rest hl]
      exact ih hl (ht'.trans ht)

/-- Data bytes under way take at most a step each, and lead where the pseudocode's data phase does. -/
theorem runSteps_writeData (v : Byte) (rest : List Byte) {s : State} (hs : s.halted = false) (ht : s.txn = .idle) :
    ∃ n, n ≤ rest.length + 1 ∧
      runSteps n (s.setTxn (.write v rest)) = .next (reenter (writeData (v :: rest) s)) := by
  induction rest generalizing v s with
  | nil =>
    refine ⟨1, le_rfl, ?_⟩
    obtain ⟨info, hw, hstep⟩ | ⟨hl, ht', hstep⟩ := step_dataByte (v := v) [] hs
    · rw [runSteps_of_step 0 hstep, writeData_fatal [] (by simp [hw]), hw, reenter_halted rfl]
      rfl
    · have hidle : (advancePtr (regWrite s.ptr v s)).txn = Txn.ofBytes [] := ht'.trans ht
      rw [runSteps_of_step 0 hstep, writeData_live [] hl, setTxn_of_eq hidle]
      rfl
  | cons w rest ih =>
    obtain ⟨info, hw, hstep⟩ | ⟨hl, ht', hstep⟩ := step_dataByte (v := v) (w :: rest) hs
    · refine ⟨1, by simp, ?_⟩
      rw [runSteps_of_step 0 hstep, writeData_fatal _ (by simp [hw]), hw, reenter_halted rfl]
      rfl
    · obtain ⟨n, hn, hrun⟩ := ih w (s := advancePtr (regWrite s.ptr v s)) hl (ht'.trans ht)
      rw [reenter_underWay (by simp [Txn.ofBytes])] at hstep
      exact ⟨n + 1, Nat.succ_le_succ hn, by rw [runSteps_of_step n hstep, writeData_live _ hl]; exact hrun⟩

theorem writeTransaction_txn (bytes : List Byte) {s : State} (hs : s.halted = false) (ht : s.txn = .idle) :
    (writeTransaction bytes s).txn = .idle := by
  cases bytes with
  | nil => exact ht
  | cons a data => exact writeData_txn data hs ht

/-- Settles O32: the first step is the call, then each data byte has its own. -/
theorem writeTransactionRunsAsPseudocode : Obligations.WriteTransactionRunsAsPseudocode := by
  intro s c rest bytes t hs ht hp hd hdef
  have hfirst := step_call_next hs ht hp hd rfl
  have hend : (if t.halted then t else enterMonitor t.now t) = reenter t := by
    have hidle : t.txn = .idle := hdef ▸ writeTransaction_txn bytes hs ht
    simp [reenter, hidle]
  rw [hend, hdef]
  match bytes with
  | [] => exact ⟨1, by simp, runSteps_of_step 0 hfirst⟩
  | [a] =>
    refine ⟨1, by simp, (runSteps_of_step 0 hfirst).trans ?_⟩
    exact congrArg (fun u => Host.Outcome.next (reenter u)) (setTxn_of_eq ht)
  | a :: v :: data =>
    obtain ⟨n, hn, hrun⟩ := runSteps_writeData v data (s := (dropMonitor (takeCall rest c s)).setPtr a) hs ht
    refine ⟨n + 1, Nat.succ_le_succ (by simpa using hn.trans (Nat.le_succ _)), (runSteps_of_step n hfirst).trans ?_⟩
    have under : ownerAfter (.writeTxn (a :: v :: data)) (startWrite (a :: v :: data) (dropMonitor (takeCall rest c s))) =
        ((dropMonitor (takeCall rest c s)).setPtr a).setTxn (.write v data) :=
      (ownerAfter_writeTxn ..).trans (reenter_underWay (by simp [startWrite, Txn.ofBytes]))
    rw [ownerBefore_writeTxn, under]
    exact hrun

/-! ### One buffer byte -/

/-- From `s` to `u` there may be output, but the core's registers and `halted` are the same. -/
structure OnlyOutput (s u : State) : Prop where
  registers : SameRegisters s u
  halted : u.halted = s.halted

theorem OnlyOutput.refl (s : State) : OnlyOutput s s := ⟨⟨rfl, rfl, rfl, rfl, rfl⟩, rfl⟩

theorem OnlyOutput.trans {s t u : State} (h : OnlyOutput s t) (h' : OnlyOutput t u) : OnlyOutput s u := by
  obtain ⟨⟨hpins, hptr, hbank, hseq, hwindow⟩, hhalted⟩ := h
  obtain ⟨⟨hpins', hptr', hbank', hseq', hwindow'⟩, hhalted'⟩ := h'
  exact ⟨⟨hpins'.trans hpins, hptr'.trans hptr, hbank'.trans hbank, hseq'.trans hseq, hwindow'.trans hwindow⟩,
    hhalted'.trans hhalted⟩

/-- The register read of a buffer byte: the fatal fault, or a byte after some output. The operation the key selects does the
same with a prepare under way, and delivers the byte (R150, R152). -/
theorem regRead_cases (a : Byte) (s : State) :
    (∃ info, regRead a s = (none, raiseFatal info s) ∧
      ∀ txn, exec (decodeRead a s.bankMode) (s.setTxn txn) = running s (raiseFatal info s)) ∨
    (∃ v u, regRead a s = (some v, u) ∧ OnlyOutput s u ∧
      ∀ txn, exec (decodeRead a s.bankMode) (s.setTxn txn) = running s (deliver v (u.setTxn txn))) := by
  have plain := OnlyOutput.refl s
  unfold regRead decodeRead
  cases hd : decodeAddress a s.bankMode with
  | none => exact .inr ⟨_, _, rfl, ⟨⟨rfl, rfl, rfl, rfl, rfl⟩, rfl⟩, fun _ => exec_rd_invalid ..⟩
  | some reg =>
    obtain ⟨ty, b⟩ := reg
    have sampled : OnlyOutput s (sampleLines b s) := ⟨⟨rfl, rfl, rfl, rfl, rfl⟩, rfl⟩
    cases ty with
    | IODIR => exact .inr ⟨_, _, rfl, plain, fun _ => exec_rd_iodir ..⟩
    | GPPU => exact .inr ⟨_, _, rfl, plain, fun _ => exec_rd_gppu ..⟩
    | GPIO => exact .inr ⟨_, _, rfl, sampled, fun _ => exec_rd_gpio ..⟩
    | OLAT => exact .inr ⟨_, _, rfl, sampled, fun _ => exec_rd_olat ..⟩
    | IPOL | GPINTEN | DEFVAL | INTCON | IOCON | INTF | INTCAP =>
      exact .inl ⟨_, rfl, fun _ => registerAddress_of_decode hd ▸ exec_rd_unimplemented _ _ _ rfl⟩

theorem readData_fatal {lptr : Byte} {s u : State} (n : Nat) (buf : List Byte) (h : regRead lptr s = (none, u)) :
    readData (n + 1) lptr buf s = u := by
  simp [readData, h]

theorem readData_byte {lptr v : Byte} {s u : State} (n : Nat) (buf : List Byte) (h : regRead lptr s = (some v, u)) :
    readData (n + 1) lptr buf s = readData n (advance lptr u.mode) (buf ++ [v]) u := by
  simp [readData, h]

/-! ### A prepare -/

/-- Buffer bytes under way take at most a step each, and lead where the pseudocode does. -/
theorem runSteps_readData (more : Nat) (lptr : Byte) (buf : List Byte) {s : State} (hs : s.halted = false) :
    ∃ n, n ≤ more + 1 ∧ runSteps n (s.setTxn (.read lptr more buf)) = .next (readData (more + 1) lptr buf s) := by
  induction more generalizing lptr buf s with
  | zero =>
    have hstep := step_readByte (s := s.setTxn (.read lptr 0 buf)) hs rfl
    refine ⟨1, le_rfl, ?_⟩
    obtain ⟨info, hr, hexec⟩ | ⟨v, u, hr, -, hexec⟩ := regRead_cases lptr s
    · rw [runSteps_of_step 0 (hstep.trans ((hexec _).trans (running_live hs))), readData_fatal 0 buf hr]
      rfl
    · rw [runSteps_of_step 0 (hstep.trans ((hexec _).trans (running_live hs))), readData_byte 0 buf hr,
        deliver_last v rfl]
      rfl
  | succ more ih =>
    have hstep := step_readByte (s := s.setTxn (.read lptr (more + 1) buf)) hs rfl
    obtain ⟨info, hr, hexec⟩ | ⟨v, u, hr, hout, hexec⟩ := regRead_cases lptr s
    · refine ⟨1, by simp, ?_⟩
      rw [runSteps_of_step 0 (hstep.trans ((hexec _).trans (running_live hs))), readData_fatal _ buf hr]
      rfl
    · obtain ⟨n, hn, hrun⟩ := ih (advance lptr u.mode) (buf ++ [v]) (hout.halted.trans hs)
      refine ⟨n + 1, Nat.succ_le_succ hn, ?_⟩
      rw [runSteps_of_step n (hstep.trans ((hexec _).trans (running_live hs))), readData_byte _ buf hr,
        deliver_more v rfl]
      exact hrun

/-- Settles O34: the first step is the call, then each buffer byte has its own. -/
theorem prepareRunsAsPseudocode : Obligations.PrepareRunsAsPseudocode := by
  intro s c rest len hs ht hp hd
  have hfirst := step_call_next hs ht hp hd rfl
  rw [ownerAfter_prepare, ownerBefore_prepare] at hfirst
  cases len with
  | zero => exact ⟨1, le_rfl, runSteps_of_step 0 hfirst⟩
  | succ more =>
    obtain ⟨n, hn, hrun⟩ := runSteps_readData more s.ptr [] (s := dropMonitor (takeCall rest c s)) hs
    exact ⟨n + 1, Nat.succ_le_succ hn, (runSteps_of_step n hfirst).trans hrun⟩

/-- The whole of the buffer phase from a live state: after some output, the fatal fault or the end of the prepare with all
its bytes. -/
theorem readData_cases (n : Nat) (lptr : Byte) (buf : List Byte) (s : State) :
    ∃ u, OnlyOutput s u ∧ ((∃ info, readData n lptr buf s = raiseFatal info u) ∨
      ∃ all, all.length = buf.length + n ∧ readData n lptr buf s = finishPrepare all u) := by
  induction n generalizing lptr buf s with
  | zero => exact ⟨s, .refl s, .inr ⟨buf, rfl, rfl⟩⟩
  | succ n ih =>
    obtain ⟨info, hr, -⟩ | ⟨v, t, hr, hout, -⟩ := regRead_cases lptr s
    · exact ⟨s, .refl s, .inl ⟨info, readData_fatal n buf hr⟩⟩
    · rw [readData_byte n buf hr]
      obtain ⟨u, hu, hfatal | ⟨all, hlen, hfinish⟩⟩ := ih (advance lptr t.mode) (buf ++ [v]) t
      · exact ⟨u, hout.trans hu, .inl hfatal⟩
      · refine ⟨u, hout.trans hu, .inr ⟨all, ?_, hfinish⟩⟩
        simp only [hlen, List.length_append, List.length_singleton]
        omega

/-- A prepare from a live state takes the fatal fault, or completes with as many bytes as it was asked for. -/
theorem prepareTransaction_cases (len : Nat) (s : State) :
    ∃ u, OnlyOutput s u ∧ ((∃ info, prepareTransaction len s = raiseFatal info u) ∨
      ∃ all, all.length = len ∧ prepareTransaction len s = finishPrepare all u) := by
  simpa [prepareTransaction] using readData_cases len s.ptr [] s

/-- Settles O35. -/
theorem prepareWritesOnlyTheWindow : Obligations.PrepareWritesOnlyTheWindow := by
  intro s len hs
  obtain ⟨u, ⟨⟨hpins, hptr, hbank, hseq, hwindow⟩, hhalted⟩, ⟨info, h⟩ | ⟨all, hlen, h⟩⟩ :=
    prepareTransaction_cases len s
  · simp [h, hpins, hptr, hbank, hseq, hwindow]
  · simp [h, hpins, hptr, hbank, hseq, hhalted, hs, hlen]

/-- Settles O37: the prepare left pointer and flags alone, and its window is its length. -/
theorem confirmRetracesThePrepare : Obligations.ConfirmRetracesThePrepare := by
  intro s len n hs hlive hn
  obtain ⟨hpins, hptr, hbank, hseq, hwindow⟩ := prepareWritesOnlyTheWindow s len hs
  have hmode : (prepareTransaction len s).mode = s.mode := by simp only [State.mode, hbank, hseq]
  rw [hlive, if_neg (by simp)] at hwindow
  constructor
  · rw [(confirmAdvancesWithinWindow _ n hlive).1 (hwindow.symm ▸ hn), hmode, hptr]
  · obtain ⟨u, -, ⟨info, h⟩ | ⟨all, hlen, h⟩⟩ := prepareTransaction_cases len s
    · simp [h] at hlive
    · exact ⟨all, hlen, by simp [h]⟩

end Sys2Proof.Machine
end
